-- ==== Sys2Proof/Word.lean ====
section
/-! DEFINITION. The word types of the video chip (spec/00_scope.md R12, R13, R15): host bytes, 17-bit
VRAM addresses and 32-bit 16.16 fixed-point values. Arithmetic on all three is `BitVec`'s, which wraps
as R12 and R13 ask. -/

namespace Sys2Proof

/-- A byte: what a register index or a VRAM address holds (R12, `u8`). -/
abbrev Byte := BitVec 8

/-- A VRAM byte address (R13, R21): 17 bits, so every address computation wraps modulo 131072. -/
abbrev VAddr := BitVec 17

/-- A 16.16 fixed-point value (R15): 32-bit two's complement, integer part = floor of the value / 65536. -/
abbrev Fixed := BitVec 32

end Sys2Proof
end

