-- ==== Sys2Proof/Config.lean ====
section
/-! DEFINITION. The configuration parameters of spec/00_scope.md R8 and R9, and the free values.
R8: "Each is a named configuration field of the model; the default is this spec's choice". The
parameters are per instance (spec/48_host_interfaces.md R394), so `State` carries a `Config`; no
operation changes it, and a statement about every state holds for every value of every parameter.
The free values (R10: the only non-determinism) are opaque: no proof can see what they are. Each is drawn by a
field of the instance's own `Config`, so instances need not share them. -/

namespace Sys2Proof

/-- One of the two address ports (spec/10_state.md R22): "ports are numbered 0 and 1". -/
inductive PortId where
  | port0
  | port1
  deriving DecidableEq, Repr

/-- The `BITMAP_SCROLL` parameter (spec/44_layers.md R274, spec/90_conflicts.md C10). -/
inductive BitmapScroll where
  /-- Bitmap layers apply scroll (the default, the source's statement). -/
  | honored
  /-- Bitmap layers ignore scroll. -/
  | ignored
  deriving DecidableEq, Repr

/-- The `GREY` parameter (spec/46_compositor_palette.md R343) as plain data. -/
inductive GreyRule where
  /-- The default of R343: `m = (r4 + b4 + 2*g4) >> 2` on every channel. -/
  | weighted
  /-- Any other function: the 12-bit result for each 12-bit `r,g,b` index (0 where the list ends). -/
  | table (entries : List (BitVec 12))
  deriving DecidableEq, Repr

/-- The named parameters of R8 and R9 with the spec's defaults. -/
structure Config where
  /-- `SPRITE_LINE_BUDGET` (D13): initial value of the per-line sprite work counter. -/
  spriteLineBudget : Nat := 801
  /-- `NTSC_HALF_W` (D23): pixel ticks per NTSC half-line. -/
  ntscHalfW : Nat := 794
  /-- `NTSC_Y_OFF_LOW` (D23): half-line offset of the low field. -/
  ntscYOffLow : Nat := 42
  /-- `NTSC_Y_OFF_HIGH` (D23): half-line offset of the high field. -/
  ntscYOffHigh : Nat := 568
  /-- `PIXEL_FREQ_MHZ` (D23): informative only (R350: the host converts cycles to ticks); no rule reads it. -/
  pixelFreqMHz : Nat := 25
  /-- `DEFAULT_PALETTE` (D25): 12-bit entries after reset, or none (the default): unwritten palette
  bytes are then unspecified. -/
  defaultPalette : Option (List (BitVec 12)) := none
  /-- `DISABLED_COLOR` (D14): 24-bit RGB shown when the output mode is 0. -/
  disabledColor : BitVec 24 := 0x0000FF#24
  /-- `GREY` (D15). -/
  grey : GreyRule := .weighted
  /-- `LINE_STEP_PORT` (D16): which port's access steps the line-draw accumulator. -/
  lineStepPort : PortId := .port0
  /-- `BITMAP_SCROLL` (D12). -/
  bitmapScroll : BitmapScroll := .honored
  /-- `VERSION_BYTES` (R9, D6). -/
  versionBytes : Vector Byte 4 := #v[0x56#8, 0x00#8, 0x03#8, 0x02#8]
  /-- `VRAM_RESET_FILL` (R8, D25) of this instance: which draws `Config.vramFill` gives it (the numbering is a
  DESIGN CHOICE, notes/assumptions/3.md). -/
  vramResetFill : Nat := 0
  /-- The framebuffer bytes this instance leaves unspecified (spec/10_state.md R47): which draws
  `Config.frameFill` gives it (the numbering is a DESIGN CHOICE, notes/assumptions/4.md). -/
  frameResetFill : Nat := 0
  deriving DecidableEq, Repr

/-- Free value (R8, spec/70_reset_and_hazards.md R430): what the byte at a VRAM address reads as in an instance
whose `VRAM_RESET_FILL` is `fill`, after its `epoch`-th reset until something is stored there, where the spec
leaves that byte unspecified ("every byte an independent unknown"). -/
opaque Config.vramFill (fill epoch address : Nat) : BitVec 8

/-- Free value of a framebuffer byte, in an instance whose `frameResetFill` is `fill`, whose line has not been
rendered since its `epoch`-th reset (spec/10_state.md R47: "a model must not assume any value for a line not
rendered since reset"). -/
opaque Config.frameFill (fill epoch offset : Nat) : BitVec 8

end Sys2Proof
end

