-- ==== Sys2Proof/Syntax.lean ====
section
/-! DEFINITION. Syntax: the host operations of the video chip, one constructor per row of
spec/opcode_table.json (spec/30_encoding.md R110 to R120), the command word that spells one, and the
reasons a word spells none. The device executes no instruction stream: its "instruction set" is the
set of host operations (spec/00_scope.md R10). A READ of register `X` is `rdX`, a WRITE `wrX v`, a
DEBUG_READ `drdX`, a host call `hostX`. A composer operation names its slot; the operations on the
undefined slots (banks 7 to 63) carry the bank that DCSEL selects (R114). -/

namespace Sys2Proof

/-- One host operation: one constructor per row of spec/opcode_table.json, in the table's order. -/
inductive Instr where
  /-- R140 `RD ADDR_L`, word 0x0000. -/
  | rdAddrL
  /-- R141 `WR ADDR_L`, word 0x4000 | v. -/
  | wrAddrL (v : Byte)
  /-- R142 `RD ADDR_M`, word 0x0100. -/
  | rdAddrM
  /-- R143 `WR ADDR_M`, word 0x4100 | v. -/
  | wrAddrM (v : Byte)
  /-- R144 `RD ADDR_H`, word 0x0200. -/
  | rdAddrH
  /-- R145 `WR ADDR_H`, word 0x4200 | v. -/
  | wrAddrH (v : Byte)
  /-- R146 `RD DATA0`, word 0x0300. -/
  | rdData0
  /-- R148 `WR DATA0`, word 0x4300 | v. -/
  | wrData0 (v : Byte)
  /-- R147 `RD DATA1`, word 0x0400. -/
  | rdData1
  /-- R149 `WR DATA1`, word 0x4400 | v. -/
  | wrData1 (v : Byte)
  /-- R150 `RD CTRL`, word 0x0500. -/
  | rdCtrl
  /-- R151 `WR CTRL`, word 0x4500 | v. -/
  | wrCtrl (v : Byte)
  /-- R152 `RD IEN`, word 0x0600. -/
  | rdIen
  /-- R153 `WR IEN`, word 0x4600 | v. -/
  | wrIen (v : Byte)
  /-- R158 `RD ISR`, word 0x0700. -/
  | rdIsr
  /-- R159 `WR ISR`, word 0x4700 | v. -/
  | wrIsr (v : Byte)
  /-- R160 `RD SCANLINE_L`, word 0x0800. -/
  | rdScanlineL
  /-- R161 `WR IRQLINE_L`, word 0x4800 | v. -/
  | wrIrqlineL (v : Byte)
  /-- R181 `RD DC_VIDEO`, word 0x0900, DCSEL = 0. -/
  | rdDcVideo
  /-- R182 `WR DC_VIDEO`, word 0x4900 | v, DCSEL = 0. -/
  | wrDcVideo (v : Byte)
  /-- R183 `RD DC_HSCALE`, word 0x0A00, DCSEL = 0. -/
  | rdDcHscale
  /-- R184 `WR DC_HSCALE`, word 0x4A00 | v, DCSEL = 0. -/
  | wrDcHscale (v : Byte)
  /-- R185 `RD DC_VSCALE`, word 0x0B00, DCSEL = 0. -/
  | rdDcVscale
  /-- R186 `WR DC_VSCALE`, word 0x4B00 | v, DCSEL = 0. -/
  | wrDcVscale (v : Byte)
  /-- R187 `RD DC_BORDER`, word 0x0C00, DCSEL = 0. -/
  | rdDcBorder
  /-- R188 `WR DC_BORDER`, word 0x4C00 | v, DCSEL = 0. -/
  | wrDcBorder (v : Byte)
  /-- R191 `RD DC_HSTART`, word 0x0900, DCSEL = 1. -/
  | rdDcHstart
  /-- R192 `WR DC_HSTART`, word 0x4900 | v, DCSEL = 1. -/
  | wrDcHstart (v : Byte)
  /-- R193 `RD DC_HSTOP`, word 0x0A00, DCSEL = 1. -/
  | rdDcHstop
  /-- R194 `WR DC_HSTOP`, word 0x4A00 | v, DCSEL = 1. -/
  | wrDcHstop (v : Byte)
  /-- R195 `RD DC_VSTART`, word 0x0B00, DCSEL = 1. -/
  | rdDcVstart
  /-- R196 `WR DC_VSTART`, word 0x4B00 | v, DCSEL = 1. -/
  | wrDcVstart (v : Byte)
  /-- R197 `RD DC_VSTOP`, word 0x0C00, DCSEL = 1. -/
  | rdDcVstop
  /-- R198 `WR DC_VSTOP`, word 0x4C00 | v, DCSEL = 1. -/
  | wrDcVstop (v : Byte)
  /-- R201 `RD FX_CTRL`, word 0x0900, DCSEL = 2. -/
  | rdFxCtrl
  /-- R202 `WR FX_CTRL`, word 0x4900 | v, DCSEL = 2. -/
  | wrFxCtrl (v : Byte)
  /-- R203 `RD FX_TILEBASE`, word 0x0A00, DCSEL = 2. -/
  | rdFxTilebase
  /-- R204 `WR FX_TILEBASE`, word 0x4A00 | v, DCSEL = 2. -/
  | wrFxTilebase (v : Byte)
  /-- R203 `RD FX_MAPBASE`, word 0x0B00, DCSEL = 2. -/
  | rdFxMapbase
  /-- R205 `WR FX_MAPBASE`, word 0x4B00 | v, DCSEL = 2. -/
  | wrFxMapbase (v : Byte)
  /-- R203 `RD FX_MULT`, word 0x0C00, DCSEL = 2. -/
  | rdFxMult
  /-- R206 `WR FX_MULT`, word 0x4C00 | v, DCSEL = 2. -/
  | wrFxMult (v : Byte)
  /-- R203 `RD FX_X_INCR_L`, word 0x0900, DCSEL = 3. -/
  | rdFxXIncrL
  /-- R208 `WR FX_X_INCR_L`, word 0x4900 | v, DCSEL = 3. -/
  | wrFxXIncrL (v : Byte)
  /-- R203 `RD FX_X_INCR_H`, word 0x0A00, DCSEL = 3. -/
  | rdFxXIncrH
  /-- R209 `WR FX_X_INCR_H`, word 0x4A00 | v, DCSEL = 3. -/
  | wrFxXIncrH (v : Byte)
  /-- R203 `RD FX_Y_INCR_L`, word 0x0B00, DCSEL = 3. -/
  | rdFxYIncrL
  /-- R210 `WR FX_Y_INCR_L`, word 0x4B00 | v, DCSEL = 3. -/
  | wrFxYIncrL (v : Byte)
  /-- R203 `RD FX_Y_INCR_H`, word 0x0C00, DCSEL = 3. -/
  | rdFxYIncrH
  /-- R211 `WR FX_Y_INCR_H`, word 0x4C00 | v, DCSEL = 3. -/
  | wrFxYIncrH (v : Byte)
  /-- R203 `RD FX_X_POS_L`, word 0x0900, DCSEL = 4. -/
  | rdFxXPosL
  /-- R214 `WR FX_X_POS_L`, word 0x4900 | v, DCSEL = 4. -/
  | wrFxXPosL (v : Byte)
  /-- R203 `RD FX_X_POS_H`, word 0x0A00, DCSEL = 4. -/
  | rdFxXPosH
  /-- R215 `WR FX_X_POS_H`, word 0x4A00 | v, DCSEL = 4. -/
  | wrFxXPosH (v : Byte)
  /-- R203 `RD FX_Y_POS_L`, word 0x0B00, DCSEL = 4. -/
  | rdFxYPosL
  /-- R216 `WR FX_Y_POS_L`, word 0x4B00 | v, DCSEL = 4. -/
  | wrFxYPosL (v : Byte)
  /-- R203 `RD FX_Y_POS_H`, word 0x0C00, DCSEL = 4. -/
  | rdFxYPosH
  /-- R217 `WR FX_Y_POS_H`, word 0x4C00 | v, DCSEL = 4. -/
  | wrFxYPosH (v : Byte)
  /-- R203 `RD FX_X_POS_S`, word 0x0900, DCSEL = 5. -/
  | rdFxXPosS
  /-- R218 `WR FX_X_POS_S`, word 0x4900 | v, DCSEL = 5. -/
  | wrFxXPosS (v : Byte)
  /-- R203 `RD FX_Y_POS_S`, word 0x0A00, DCSEL = 5. -/
  | rdFxYPosS
  /-- R219 `WR FX_Y_POS_S`, word 0x4A00 | v, DCSEL = 5. -/
  | wrFxYPosS (v : Byte)
  /-- R222 `RD FX_POLY_FILL_L`, word 0x0B00, DCSEL = 5. -/
  | rdFxPolyFillL
  /-- R220 `WR FX_POLY_FILL_L`, word 0x4B00 | v, DCSEL = 5. -/
  | wrFxPolyFillL (v : Byte)
  /-- R223 `RD FX_POLY_FILL_H`, word 0x0C00, DCSEL = 5. -/
  | rdFxPolyFillH
  /-- R221 `WR FX_POLY_FILL_H`, word 0x4C00 | v, DCSEL = 5. -/
  | wrFxPolyFillH (v : Byte)
  /-- R224 `RD FX_ACCUM_RESET`, word 0x0900, DCSEL = 6. -/
  | rdFxAccumReset
  /-- R226 `WR FX_CACHE_L`, word 0x4900 | v, DCSEL = 6. -/
  | wrFxCacheL (v : Byte)
  /-- R225 `RD FX_ACCUM`, word 0x0A00, DCSEL = 6. -/
  | rdFxAccum
  /-- R227 `WR FX_CACHE_M`, word 0x4A00 | v, DCSEL = 6. -/
  | wrFxCacheM (v : Byte)
  /-- R203 `RD FX_CACHE_H`, word 0x0B00, DCSEL = 6. -/
  | rdFxCacheH
  /-- R228 `WR FX_CACHE_H`, word 0x4B00 | v, DCSEL = 6. -/
  | wrFxCacheH (v : Byte)
  /-- R203 `RD FX_CACHE_U`, word 0x0C00, DCSEL = 6. -/
  | rdFxCacheU
  /-- R229 `WR FX_CACHE_U`, word 0x4C00 | v, DCSEL = 6. -/
  | wrFxCacheU (v : Byte)
  /-- R190 `RD UNDEF0`, word 0x0900, DCSEL in 7 to 63. -/
  | rdUndef0 (bank : BitVec 6)
  /-- R189 `WR UNDEF0`, word 0x4900 | v, DCSEL in 7 to 63. -/
  | wrUndef0 (bank : BitVec 6) (v : Byte)
  /-- R190 `RD UNDEF1`, word 0x0A00, DCSEL in 7 to 63. -/
  | rdUndef1 (bank : BitVec 6)
  /-- R189 `WR UNDEF1`, word 0x4A00 | v, DCSEL in 7 to 63. -/
  | wrUndef1 (bank : BitVec 6) (v : Byte)
  /-- R190 `RD UNDEF2`, word 0x0B00, DCSEL in 7 to 63. -/
  | rdUndef2 (bank : BitVec 6)
  /-- R189 `WR UNDEF2`, word 0x4B00 | v, DCSEL in 7 to 63. -/
  | wrUndef2 (bank : BitVec 6) (v : Byte)
  /-- R190 `RD UNDEF3`, word 0x0C00, DCSEL in 7 to 63. -/
  | rdUndef3 (bank : BitVec 6)
  /-- R189 `WR UNDEF3`, word 0x4C00 | v, DCSEL in 7 to 63. -/
  | wrUndef3 (bank : BitVec 6) (v : Byte)
  /-- R282 `RD L0_CONFIG`, word 0x0D00. -/
  | rdL0Config
  /-- R283 `WR L0_CONFIG`, word 0x4D00 | v. -/
  | wrL0Config (v : Byte)
  /-- R284 `RD L0_MAPBASE`, word 0x0E00. -/
  | rdL0Mapbase
  /-- R285 `WR L0_MAPBASE`, word 0x4E00 | v. -/
  | wrL0Mapbase (v : Byte)
  /-- R286 `RD L0_TILEBASE`, word 0x0F00. -/
  | rdL0Tilebase
  /-- R287 `WR L0_TILEBASE`, word 0x4F00 | v. -/
  | wrL0Tilebase (v : Byte)
  /-- R288 `RD L0_HSCROLL_L`, word 0x1000. -/
  | rdL0HscrollL
  /-- R289 `WR L0_HSCROLL_L`, word 0x5000 | v. -/
  | wrL0HscrollL (v : Byte)
  /-- R290 `RD L0_HSCROLL_H`, word 0x1100. -/
  | rdL0HscrollH
  /-- R291 `WR L0_HSCROLL_H`, word 0x5100 | v. -/
  | wrL0HscrollH (v : Byte)
  /-- R292 `RD L0_VSCROLL_L`, word 0x1200. -/
  | rdL0VscrollL
  /-- R293 `WR L0_VSCROLL_L`, word 0x5200 | v. -/
  | wrL0VscrollL (v : Byte)
  /-- R294 `RD L0_VSCROLL_H`, word 0x1300. -/
  | rdL0VscrollH
  /-- R295 `WR L0_VSCROLL_H`, word 0x5300 | v. -/
  | wrL0VscrollH (v : Byte)
  /-- R296 `RD L1_CONFIG`, word 0x1400. -/
  | rdL1Config
  /-- R297 `WR L1_CONFIG`, word 0x5400 | v. -/
  | wrL1Config (v : Byte)
  /-- R298 `RD L1_MAPBASE`, word 0x1500. -/
  | rdL1Mapbase
  /-- R299 `WR L1_MAPBASE`, word 0x5500 | v. -/
  | wrL1Mapbase (v : Byte)
  /-- R300 `RD L1_TILEBASE`, word 0x1600. -/
  | rdL1Tilebase
  /-- R301 `WR L1_TILEBASE`, word 0x5600 | v. -/
  | wrL1Tilebase (v : Byte)
  /-- R302 `RD L1_HSCROLL_L`, word 0x1700. -/
  | rdL1HscrollL
  /-- R303 `WR L1_HSCROLL_L`, word 0x5700 | v. -/
  | wrL1HscrollL (v : Byte)
  /-- R304 `RD L1_HSCROLL_H`, word 0x1800. -/
  | rdL1HscrollH
  /-- R305 `WR L1_HSCROLL_H`, word 0x5800 | v. -/
  | wrL1HscrollH (v : Byte)
  /-- R306 `RD L1_VSCROLL_L`, word 0x1900. -/
  | rdL1VscrollL
  /-- R307 `WR L1_VSCROLL_L`, word 0x5900 | v. -/
  | wrL1VscrollL (v : Byte)
  /-- R308 `RD L1_VSCROLL_H`, word 0x1A00. -/
  | rdL1VscrollH
  /-- R309 `WR L1_VSCROLL_H`, word 0x5A00 | v. -/
  | wrL1VscrollH (v : Byte)
  /-- R382 `RD AUDIO_CTRL`, word 0x1B00. -/
  | rdAudioCtrl
  /-- R381 `WR AUDIO_CTRL`, word 0x5B00 | v. -/
  | wrAudioCtrl (v : Byte)
  /-- R382 `RD AUDIO_RATE`, word 0x1C00. -/
  | rdAudioRate
  /-- R381 `WR AUDIO_RATE`, word 0x5C00 | v. -/
  | wrAudioRate (v : Byte)
  /-- R382 `RD AUDIO_DATA`, word 0x1D00. -/
  | rdAudioData
  /-- R381 `WR AUDIO_DATA`, word 0x5D00 | v. -/
  | wrAudioData (v : Byte)
  /-- R384 `RD SPI_DATA`, word 0x1E00. -/
  | rdSpiData
  /-- R383 `WR SPI_DATA`, word 0x5E00 | v. -/
  | wrSpiData (v : Byte)
  /-- R384 `RD SPI_CTRL`, word 0x1F00. -/
  | rdSpiCtrl
  /-- R383 `WR SPI_CTRL`, word 0x5F00 | v. -/
  | wrSpiCtrl (v : Byte)
  /-- R388 `DRD ADDR_L`, word 0x8000. -/
  | drdAddrL
  /-- R388 `DRD ADDR_M`, word 0x8100. -/
  | drdAddrM
  /-- R388 `DRD ADDR_H`, word 0x8200. -/
  | drdAddrH
  /-- R388 `DRD DATA0`, word 0x8300. -/
  | drdData0
  /-- R388 `DRD DATA1`, word 0x8400. -/
  | drdData1
  /-- R388 `DRD CTRL`, word 0x8500. -/
  | drdCtrl
  /-- R388 `DRD IEN`, word 0x8600. -/
  | drdIen
  /-- R388 `DRD ISR`, word 0x8700. -/
  | drdIsr
  /-- R388 `DRD SCANLINE_L`, word 0x8800. -/
  | drdScanlineL
  /-- R388 `DRD COMP9`, word 0x8900, DCSEL in 0 to 63. -/
  | drdComp9
  /-- R388 `DRD COMP10`, word 0x8A00, DCSEL in 0 to 63. -/
  | drdComp10
  /-- R388 `DRD COMP11`, word 0x8B00, DCSEL in 0 to 63. -/
  | drdComp11
  /-- R388 `DRD COMP12`, word 0x8C00, DCSEL in 0 to 63. -/
  | drdComp12
  /-- R388 `DRD L0_CONFIG`, word 0x8D00. -/
  | drdL0Config
  /-- R388 `DRD L0_MAPBASE`, word 0x8E00. -/
  | drdL0Mapbase
  /-- R388 `DRD L0_TILEBASE`, word 0x8F00. -/
  | drdL0Tilebase
  /-- R388 `DRD L0_HSCROLL_L`, word 0x9000. -/
  | drdL0HscrollL
  /-- R388 `DRD L0_HSCROLL_H`, word 0x9100. -/
  | drdL0HscrollH
  /-- R388 `DRD L0_VSCROLL_L`, word 0x9200. -/
  | drdL0VscrollL
  /-- R388 `DRD L0_VSCROLL_H`, word 0x9300. -/
  | drdL0VscrollH
  /-- R388 `DRD L1_CONFIG`, word 0x9400. -/
  | drdL1Config
  /-- R388 `DRD L1_MAPBASE`, word 0x9500. -/
  | drdL1Mapbase
  /-- R388 `DRD L1_TILEBASE`, word 0x9600. -/
  | drdL1Tilebase
  /-- R388 `DRD L1_HSCROLL_L`, word 0x9700. -/
  | drdL1HscrollL
  /-- R388 `DRD L1_HSCROLL_H`, word 0x9800. -/
  | drdL1HscrollH
  /-- R388 `DRD L1_VSCROLL_L`, word 0x9900. -/
  | drdL1VscrollL
  /-- R388 `DRD L1_VSCROLL_H`, word 0x9A00. -/
  | drdL1VscrollH
  /-- R388 `DRD AUDIO_CTRL`, word 0x9B00. -/
  | drdAudioCtrl
  /-- R388 `DRD AUDIO_RATE`, word 0x9C00. -/
  | drdAudioRate
  /-- R388 `DRD AUDIO_DATA`, word 0x9D00. -/
  | drdAudioData
  /-- R388 `DRD SPI_DATA`, word 0x9E00. -/
  | drdSpiData
  /-- R388 `DRD SPI_CTRL`, word 0x9F00. -/
  | drdSpiCtrl
  /-- R393 `RESET`, word 0xC000. -/
  | hostReset
  /-- R351 `STEP`, word 0xC100. -/
  | hostStep (n : Nat)
  /-- R390 `IRQ?`, word 0xC200. -/
  | hostIrqQuery
  /-- R389 `FB`, word 0xC300. -/
  | hostFramebuffer
  /-- R392 `DUMP`, word 0xC400. -/
  | hostDump
  /-- R391 `SKIP?`, word 0xC500. -/
  | hostSkipQuery
  deriving DecidableEq, Repr

/-- One host operation as the host presents it (R110): a 16-bit command word and, for STEP only, an
operand outside the word (R112); every other operation leaves the operand unread. -/
structure HostCommand where
  word : BitVec 16
  operand : Nat := 0
  deriving DecidableEq, Repr

/-- Why a command word spells no operation (R116). -/
inductive DecodeError where
  /-- Bit 13 is set. -/
  | reservedBitSet
  /-- A READ, DEBUG_READ or HOSTCALL word whose DATA field is not 0. -/
  | dataNotZero
  /-- A HOSTCALL with call number 6 to 31. -/
  | noSuchHostCall
  deriving DecidableEq, Repr

end Sys2Proof
end

