-- ==== Sys2Proof/WellFormed.lean ====
section
/-! DEFINITION. Well-formedness: the one condition the operands' types do not carry. The operations on
undefined composer slots exist only in banks 7 to 63 (spec/30_encoding.md R114, spec/41_composer_registers.md
R189, R190); every other operand is exactly as wide as its field. Also here: the bank in which a word
spells an operation. -/

namespace Sys2Proof

/-- Banks 7 to 63 hold the undefined composer slots (R114). -/
def undefinedBank (bank : BitVec 6) : Bool := 7 ≤ bank.toNat

/-- An operation the device has: a `rdUndef`/`wrUndef` names a bank from 7 to 63. -/
def Instr.wellFormed : Instr → Bool
  | .rdUndef0 bank => undefinedBank bank
  | .wrUndef0 bank _ => undefinedBank bank
  | .rdUndef1 bank => undefinedBank bank
  | .wrUndef1 bank _ => undefinedBank bank
  | .rdUndef2 bank => undefinedBank bank
  | .wrUndef2 bank _ => undefinedBank bank
  | .rdUndef3 bank => undefinedBank bank
  | .wrUndef3 bank _ => undefinedBank bank
  | .rdAddrL | .wrAddrL _ | .rdAddrM | .wrAddrM _ | .rdAddrH | .wrAddrH _
  | .rdData0 | .wrData0 _ | .rdData1 | .wrData1 _ | .rdCtrl | .wrCtrl _
  | .rdIen | .wrIen _ | .rdIsr | .wrIsr _ | .rdScanlineL | .wrIrqlineL _
  | .rdDcVideo | .wrDcVideo _ | .rdDcHscale | .wrDcHscale _ | .rdDcVscale | .wrDcVscale _
  | .rdDcBorder | .wrDcBorder _ | .rdDcHstart | .wrDcHstart _ | .rdDcHstop | .wrDcHstop _
  | .rdDcVstart | .wrDcVstart _ | .rdDcVstop | .wrDcVstop _ | .rdFxCtrl | .wrFxCtrl _
  | .rdFxTilebase | .wrFxTilebase _ | .rdFxMapbase | .wrFxMapbase _ | .rdFxMult | .wrFxMult _
  | .rdFxXIncrL | .wrFxXIncrL _ | .rdFxXIncrH | .wrFxXIncrH _ | .rdFxYIncrL | .wrFxYIncrL _
  | .rdFxYIncrH | .wrFxYIncrH _ | .rdFxXPosL | .wrFxXPosL _ | .rdFxXPosH | .wrFxXPosH _
  | .rdFxYPosL | .wrFxYPosL _ | .rdFxYPosH | .wrFxYPosH _ | .rdFxXPosS | .wrFxXPosS _
  | .rdFxYPosS | .wrFxYPosS _ | .rdFxPolyFillL | .wrFxPolyFillL _ | .rdFxPolyFillH | .wrFxPolyFillH _
  | .rdFxAccumReset | .wrFxCacheL _ | .rdFxAccum | .wrFxCacheM _ | .rdFxCacheH | .wrFxCacheH _
  | .rdFxCacheU | .wrFxCacheU _ | .rdL0Config | .wrL0Config _ | .rdL0Mapbase | .wrL0Mapbase _
  | .rdL0Tilebase | .wrL0Tilebase _ | .rdL0HscrollL | .wrL0HscrollL _ | .rdL0HscrollH | .wrL0HscrollH _
  | .rdL0VscrollL | .wrL0VscrollL _ | .rdL0VscrollH | .wrL0VscrollH _ | .rdL1Config | .wrL1Config _
  | .rdL1Mapbase | .wrL1Mapbase _ | .rdL1Tilebase | .wrL1Tilebase _ | .rdL1HscrollL | .wrL1HscrollL _
  | .rdL1HscrollH | .wrL1HscrollH _ | .rdL1VscrollL | .wrL1VscrollL _ | .rdL1VscrollH | .wrL1VscrollH _
  | .rdAudioCtrl | .wrAudioCtrl _ | .rdAudioRate | .wrAudioRate _ | .rdAudioData | .wrAudioData _
  | .rdSpiData | .wrSpiData _ | .rdSpiCtrl | .wrSpiCtrl _ | .drdAddrL | .drdAddrM
  | .drdAddrH | .drdData0 | .drdData1 | .drdCtrl | .drdIen | .drdIsr
  | .drdScanlineL | .drdComp9 | .drdComp10 | .drdComp11 | .drdComp12 | .drdL0Config
  | .drdL0Mapbase | .drdL0Tilebase | .drdL0HscrollL | .drdL0HscrollH | .drdL0VscrollL | .drdL0VscrollH
  | .drdL1Config | .drdL1Mapbase | .drdL1Tilebase | .drdL1HscrollL | .drdL1HscrollH | .drdL1VscrollL
  | .drdL1VscrollH | .drdAudioCtrl | .drdAudioRate | .drdAudioData | .drdSpiData | .drdSpiCtrl
  | .hostReset | .hostStep _ | .hostIrqQuery | .hostFramebuffer | .hostDump | .hostSkipQuery => true

/-- The composer bank in which the operation's word spells it (R114, R120): its own bank for a
READ or WRITE of a composer slot, none for an operation whose meaning DCSEL does not choose. -/
def Instr.bank? : Instr → Option (BitVec 6)
  | .rdDcVideo | .wrDcVideo _ | .rdDcHscale | .wrDcHscale _ | .rdDcVscale | .wrDcVscale _ | .rdDcBorder | .wrDcBorder _ => some 0
  | .rdDcHstart | .wrDcHstart _ | .rdDcHstop | .wrDcHstop _ | .rdDcVstart | .wrDcVstart _ | .rdDcVstop | .wrDcVstop _ => some 1
  | .rdFxCtrl | .wrFxCtrl _ | .rdFxTilebase | .wrFxTilebase _ | .rdFxMapbase | .wrFxMapbase _ | .rdFxMult | .wrFxMult _ => some 2
  | .rdFxXIncrL | .wrFxXIncrL _ | .rdFxXIncrH | .wrFxXIncrH _ | .rdFxYIncrL | .wrFxYIncrL _ | .rdFxYIncrH | .wrFxYIncrH _ => some 3
  | .rdFxXPosL | .wrFxXPosL _ | .rdFxXPosH | .wrFxXPosH _ | .rdFxYPosL | .wrFxYPosL _ | .rdFxYPosH | .wrFxYPosH _ => some 4
  | .rdFxXPosS | .wrFxXPosS _ | .rdFxYPosS | .wrFxYPosS _ | .rdFxPolyFillL | .wrFxPolyFillL _ | .rdFxPolyFillH | .wrFxPolyFillH _ => some 5
  | .rdFxAccumReset | .wrFxCacheL _ | .rdFxAccum | .wrFxCacheM _ | .rdFxCacheH | .wrFxCacheH _ | .rdFxCacheU | .wrFxCacheU _ => some 6
  | .rdUndef0 bank => some bank
  | .wrUndef0 bank _ => some bank
  | .rdUndef1 bank => some bank
  | .wrUndef1 bank _ => some bank
  | .rdUndef2 bank => some bank
  | .wrUndef2 bank _ => some bank
  | .rdUndef3 bank => some bank
  | .wrUndef3 bank _ => some bank
  | .rdAddrL | .wrAddrL _ | .rdAddrM | .wrAddrM _ | .rdAddrH | .wrAddrH _
  | .rdData0 | .wrData0 _ | .rdData1 | .wrData1 _ | .rdCtrl | .wrCtrl _
  | .rdIen | .wrIen _ | .rdIsr | .wrIsr _ | .rdScanlineL | .wrIrqlineL _
  | .rdL0Config | .wrL0Config _ | .rdL0Mapbase | .wrL0Mapbase _ | .rdL0Tilebase | .wrL0Tilebase _
  | .rdL0HscrollL | .wrL0HscrollL _ | .rdL0HscrollH | .wrL0HscrollH _ | .rdL0VscrollL | .wrL0VscrollL _
  | .rdL0VscrollH | .wrL0VscrollH _ | .rdL1Config | .wrL1Config _ | .rdL1Mapbase | .wrL1Mapbase _
  | .rdL1Tilebase | .wrL1Tilebase _ | .rdL1HscrollL | .wrL1HscrollL _ | .rdL1HscrollH | .wrL1HscrollH _
  | .rdL1VscrollL | .wrL1VscrollL _ | .rdL1VscrollH | .wrL1VscrollH _ | .rdAudioCtrl | .wrAudioCtrl _
  | .rdAudioRate | .wrAudioRate _ | .rdAudioData | .wrAudioData _ | .rdSpiData | .wrSpiData _
  | .rdSpiCtrl | .wrSpiCtrl _ | .drdAddrL | .drdAddrM | .drdAddrH | .drdData0
  | .drdData1 | .drdCtrl | .drdIen | .drdIsr | .drdScanlineL | .drdComp9
  | .drdComp10 | .drdComp11 | .drdComp12 | .drdL0Config | .drdL0Mapbase | .drdL0Tilebase
  | .drdL0HscrollL | .drdL0HscrollH | .drdL0VscrollL | .drdL0VscrollH | .drdL1Config | .drdL1Mapbase
  | .drdL1Tilebase | .drdL1HscrollL | .drdL1HscrollH | .drdL1VscrollL | .drdL1VscrollH | .drdAudioCtrl
  | .drdAudioRate | .drdAudioData | .drdSpiData | .drdSpiCtrl | .hostReset | .hostStep _
  | .hostIrqQuery | .hostFramebuffer | .hostDump | .hostSkipQuery => none

/-- DCSEL selects the bank in which the operation's word spells it. -/
def Instr.spelledUnder (i : Instr) (dcsel : BitVec 6) : Bool :=
  match i.bank? with
  | some bank => bank == dcsel
  | none => true

end Sys2Proof
end

