-- ==== Sys2Proof/Decode.lean ====
section
/-! DEFINITION. Decode: a command word (with the composer bank DCSEL selects, spec/30_encoding.md R114) to
the host operation it spells, or the reason it spells none (R116); and the encoder. Both are written
from the formats of R110, the host call numbers of R112 and the register map of R113. -/

namespace Sys2Proof

/-- READ of index 9: in-bank offset 0 of the bank that DCSEL selects (R114). -/
def decodeReadSlot0 (dcsel : BitVec 6) : Instr :=
  match dcsel.toNat with
  | 0 => .rdDcVideo
  | 1 => .rdDcHstart
  | 2 => .rdFxCtrl
  | 3 => .rdFxXIncrL
  | 4 => .rdFxXPosL
  | 5 => .rdFxXPosS
  | 6 => .rdFxAccumReset
  | _ => .rdUndef0 dcsel

/-- READ of index 10: in-bank offset 1 of the bank that DCSEL selects (R114). -/
def decodeReadSlot1 (dcsel : BitVec 6) : Instr :=
  match dcsel.toNat with
  | 0 => .rdDcHscale
  | 1 => .rdDcHstop
  | 2 => .rdFxTilebase
  | 3 => .rdFxXIncrH
  | 4 => .rdFxXPosH
  | 5 => .rdFxYPosS
  | 6 => .rdFxAccum
  | _ => .rdUndef1 dcsel

/-- READ of index 11: in-bank offset 2 of the bank that DCSEL selects (R114). -/
def decodeReadSlot2 (dcsel : BitVec 6) : Instr :=
  match dcsel.toNat with
  | 0 => .rdDcVscale
  | 1 => .rdDcVstart
  | 2 => .rdFxMapbase
  | 3 => .rdFxYIncrL
  | 4 => .rdFxYPosL
  | 5 => .rdFxPolyFillL
  | 6 => .rdFxCacheH
  | _ => .rdUndef2 dcsel

/-- READ of index 12: in-bank offset 3 of the bank that DCSEL selects (R114). -/
def decodeReadSlot3 (dcsel : BitVec 6) : Instr :=
  match dcsel.toNat with
  | 0 => .rdDcBorder
  | 1 => .rdDcVstop
  | 2 => .rdFxMult
  | 3 => .rdFxYIncrH
  | 4 => .rdFxYPosH
  | 5 => .rdFxPolyFillH
  | 6 => .rdFxCacheU
  | _ => .rdUndef3 dcsel

/-- WRITE of index 9: in-bank offset 0 of the bank that DCSEL selects (R114). -/
def decodeWriteSlot0 (dcsel : BitVec 6) (v : Byte) : Instr :=
  match dcsel.toNat with
  | 0 => .wrDcVideo v
  | 1 => .wrDcHstart v
  | 2 => .wrFxCtrl v
  | 3 => .wrFxXIncrL v
  | 4 => .wrFxXPosL v
  | 5 => .wrFxXPosS v
  | 6 => .wrFxCacheL v
  | _ => .wrUndef0 dcsel v

/-- WRITE of index 10: in-bank offset 1 of the bank that DCSEL selects (R114). -/
def decodeWriteSlot1 (dcsel : BitVec 6) (v : Byte) : Instr :=
  match dcsel.toNat with
  | 0 => .wrDcHscale v
  | 1 => .wrDcHstop v
  | 2 => .wrFxTilebase v
  | 3 => .wrFxXIncrH v
  | 4 => .wrFxXPosH v
  | 5 => .wrFxYPosS v
  | 6 => .wrFxCacheM v
  | _ => .wrUndef1 dcsel v

/-- WRITE of index 11: in-bank offset 2 of the bank that DCSEL selects (R114). -/
def decodeWriteSlot2 (dcsel : BitVec 6) (v : Byte) : Instr :=
  match dcsel.toNat with
  | 0 => .wrDcVscale v
  | 1 => .wrDcVstart v
  | 2 => .wrFxMapbase v
  | 3 => .wrFxYIncrL v
  | 4 => .wrFxYPosL v
  | 5 => .wrFxPolyFillL v
  | 6 => .wrFxCacheH v
  | _ => .wrUndef2 dcsel v

/-- WRITE of index 12: in-bank offset 3 of the bank that DCSEL selects (R114). -/
def decodeWriteSlot3 (dcsel : BitVec 6) (v : Byte) : Instr :=
  match dcsel.toNat with
  | 0 => .wrDcBorder v
  | 1 => .wrDcVstop v
  | 2 => .wrFxMult v
  | 3 => .wrFxYIncrH v
  | 4 => .wrFxYPosH v
  | 5 => .wrFxPolyFillH v
  | 6 => .wrFxCacheU v
  | _ => .wrUndef3 dcsel v

/-- READ of a register index (R113); indices 9 to 12 reach the slot `DCSEL*4 + (index - 9)` (R114). -/
def decodeRead (dcsel : BitVec 6) (reg : Nat) : Instr :=
  match reg with
  | 0 => .rdAddrL
  | 1 => .rdAddrM
  | 2 => .rdAddrH
  | 3 => .rdData0
  | 4 => .rdData1
  | 5 => .rdCtrl
  | 6 => .rdIen
  | 7 => .rdIsr
  | 8 => .rdScanlineL
  | 9 => decodeReadSlot0 dcsel
  | 10 => decodeReadSlot1 dcsel
  | 11 => decodeReadSlot2 dcsel
  | 12 => decodeReadSlot3 dcsel
  | 13 => .rdL0Config
  | 14 => .rdL0Mapbase
  | 15 => .rdL0Tilebase
  | 16 => .rdL0HscrollL
  | 17 => .rdL0HscrollH
  | 18 => .rdL0VscrollL
  | 19 => .rdL0VscrollH
  | 20 => .rdL1Config
  | 21 => .rdL1Mapbase
  | 22 => .rdL1Tilebase
  | 23 => .rdL1HscrollL
  | 24 => .rdL1HscrollH
  | 25 => .rdL1VscrollL
  | 26 => .rdL1VscrollH
  | 27 => .rdAudioCtrl
  | 28 => .rdAudioRate
  | 29 => .rdAudioData
  | 30 => .rdSpiData
  | _ => .rdSpiCtrl

/-- WRITE of the byte `v` to a register index (R113, R114). -/
def decodeWrite (dcsel : BitVec 6) (reg : Nat) (v : Byte) : Instr :=
  match reg with
  | 0 => .wrAddrL v
  | 1 => .wrAddrM v
  | 2 => .wrAddrH v
  | 3 => .wrData0 v
  | 4 => .wrData1 v
  | 5 => .wrCtrl v
  | 6 => .wrIen v
  | 7 => .wrIsr v
  | 8 => .wrIrqlineL v
  | 9 => decodeWriteSlot0 dcsel v
  | 10 => decodeWriteSlot1 dcsel v
  | 11 => decodeWriteSlot2 dcsel v
  | 12 => decodeWriteSlot3 dcsel v
  | 13 => .wrL0Config v
  | 14 => .wrL0Mapbase v
  | 15 => .wrL0Tilebase v
  | 16 => .wrL0HscrollL v
  | 17 => .wrL0HscrollH v
  | 18 => .wrL0VscrollL v
  | 19 => .wrL0VscrollH v
  | 20 => .wrL1Config v
  | 21 => .wrL1Mapbase v
  | 22 => .wrL1Tilebase v
  | 23 => .wrL1HscrollL v
  | 24 => .wrL1HscrollH v
  | 25 => .wrL1VscrollL v
  | 26 => .wrL1VscrollH v
  | 27 => .wrAudioCtrl v
  | 28 => .wrAudioRate v
  | 29 => .wrAudioData v
  | 30 => .wrSpiData v
  | _ => .wrSpiCtrl v

/-- DEBUG_READ of a register index (R120: one operation per index, whatever the bank). -/
def decodeDebugRead (reg : Nat) : Instr :=
  match reg with
  | 0 => .drdAddrL
  | 1 => .drdAddrM
  | 2 => .drdAddrH
  | 3 => .drdData0
  | 4 => .drdData1
  | 5 => .drdCtrl
  | 6 => .drdIen
  | 7 => .drdIsr
  | 8 => .drdScanlineL
  | 9 => .drdComp9
  | 10 => .drdComp10
  | 11 => .drdComp11
  | 12 => .drdComp12
  | 13 => .drdL0Config
  | 14 => .drdL0Mapbase
  | 15 => .drdL0Tilebase
  | 16 => .drdL0HscrollL
  | 17 => .drdL0HscrollH
  | 18 => .drdL0VscrollL
  | 19 => .drdL0VscrollH
  | 20 => .drdL1Config
  | 21 => .drdL1Mapbase
  | 22 => .drdL1Tilebase
  | 23 => .drdL1HscrollL
  | 24 => .drdL1HscrollH
  | 25 => .drdL1VscrollL
  | 26 => .drdL1VscrollH
  | 27 => .drdAudioCtrl
  | 28 => .drdAudioRate
  | 29 => .drdAudioData
  | 30 => .drdSpiData
  | _ => .drdSpiCtrl

/-- HOSTCALL (R112): call numbers 0 to 5, STEP taking its operand from outside the word. -/
def decodeHostCall (call operand : Nat) : Except DecodeError Instr :=
  match call with
  | 0 => .ok .hostReset
  | 1 => .ok (.hostStep operand)
  | 2 => .ok .hostIrqQuery
  | 3 => .ok .hostFramebuffer
  | 4 => .ok .hostDump
  | 5 => .ok .hostSkipQuery
  | _ => .error .noSuchHostCall

/-- The operation a command spells while DCSEL selects the bank `dcsel` (R110: KIND in bits 15:14,
bit 13 zero, REG in bits 12:8, DATA in bits 7:0), or why it spells none (R116). -/
def decode (dcsel : BitVec 6) (c : HostCommand) : Except DecodeError Instr :=
  if c.word.getLsbD 13 then
    .error .reservedBitSet
  else
    let reg := (c.word.extractLsb' 8 5).toNat
    let data := c.word.extractLsb' 0 8
    match (c.word.extractLsb' 14 2).toNat with
    | 1 => .ok (decodeWrite dcsel reg data)
    | 0 => if data = 0 then .ok (decodeRead dcsel reg) else .error .dataNotZero
    | 2 => if data = 0 then .ok (decodeDebugRead reg) else .error .dataNotZero
    | _ => if data = 0 then decodeHostCall reg c.operand else .error .dataNotZero

/-- The command word with the given fields (R110). -/
def commandWord (kind : BitVec 2) (reg : BitVec 5) (data : Byte) : BitVec 16 :=
  kind ++ 0#1 ++ reg ++ data

/-- A READ of a register index (format R of R110). -/
def readCommand (reg : BitVec 5) : HostCommand := ⟨commandWord 0 reg 0, 0⟩

/-- A WRITE of a register index (format W of R110). -/
def writeCommand (reg : BitVec 5) (v : Byte) : HostCommand := ⟨commandWord 1 reg v, 0⟩

/-- A DEBUG_READ of a register index (format D of R110). -/
def debugReadCommand (reg : BitVec 5) : HostCommand := ⟨commandWord 2 reg 0, 0⟩

/-- A HOSTCALL (format H of R110). -/
def hostCallCommand (call : BitVec 5) (operand : Nat) : HostCommand := ⟨commandWord 3 call 0, operand⟩

/-- The command that spells an operation (in the bank `Instr.bank?` names, where it names one). -/
def encode : Instr → HostCommand
  | .rdAddrL => readCommand 0
  | .wrAddrL v => writeCommand 0 v
  | .rdAddrM => readCommand 1
  | .wrAddrM v => writeCommand 1 v
  | .rdAddrH => readCommand 2
  | .wrAddrH v => writeCommand 2 v
  | .rdData0 => readCommand 3
  | .wrData0 v => writeCommand 3 v
  | .rdData1 => readCommand 4
  | .wrData1 v => writeCommand 4 v
  | .rdCtrl => readCommand 5
  | .wrCtrl v => writeCommand 5 v
  | .rdIen => readCommand 6
  | .wrIen v => writeCommand 6 v
  | .rdIsr => readCommand 7
  | .wrIsr v => writeCommand 7 v
  | .rdScanlineL => readCommand 8
  | .wrIrqlineL v => writeCommand 8 v
  | .rdDcVideo => readCommand 9
  | .wrDcVideo v => writeCommand 9 v
  | .rdDcHscale => readCommand 10
  | .wrDcHscale v => writeCommand 10 v
  | .rdDcVscale => readCommand 11
  | .wrDcVscale v => writeCommand 11 v
  | .rdDcBorder => readCommand 12
  | .wrDcBorder v => writeCommand 12 v
  | .rdDcHstart => readCommand 9
  | .wrDcHstart v => writeCommand 9 v
  | .rdDcHstop => readCommand 10
  | .wrDcHstop v => writeCommand 10 v
  | .rdDcVstart => readCommand 11
  | .wrDcVstart v => writeCommand 11 v
  | .rdDcVstop => readCommand 12
  | .wrDcVstop v => writeCommand 12 v
  | .rdFxCtrl => readCommand 9
  | .wrFxCtrl v => writeCommand 9 v
  | .rdFxTilebase => readCommand 10
  | .wrFxTilebase v => writeCommand 10 v
  | .rdFxMapbase => readCommand 11
  | .wrFxMapbase v => writeCommand 11 v
  | .rdFxMult => readCommand 12
  | .wrFxMult v => writeCommand 12 v
  | .rdFxXIncrL => readCommand 9
  | .wrFxXIncrL v => writeCommand 9 v
  | .rdFxXIncrH => readCommand 10
  | .wrFxXIncrH v => writeCommand 10 v
  | .rdFxYIncrL => readCommand 11
  | .wrFxYIncrL v => writeCommand 11 v
  | .rdFxYIncrH => readCommand 12
  | .wrFxYIncrH v => writeCommand 12 v
  | .rdFxXPosL => readCommand 9
  | .wrFxXPosL v => writeCommand 9 v
  | .rdFxXPosH => readCommand 10
  | .wrFxXPosH v => writeCommand 10 v
  | .rdFxYPosL => readCommand 11
  | .wrFxYPosL v => writeCommand 11 v
  | .rdFxYPosH => readCommand 12
  | .wrFxYPosH v => writeCommand 12 v
  | .rdFxXPosS => readCommand 9
  | .wrFxXPosS v => writeCommand 9 v
  | .rdFxYPosS => readCommand 10
  | .wrFxYPosS v => writeCommand 10 v
  | .rdFxPolyFillL => readCommand 11
  | .wrFxPolyFillL v => writeCommand 11 v
  | .rdFxPolyFillH => readCommand 12
  | .wrFxPolyFillH v => writeCommand 12 v
  | .rdFxAccumReset => readCommand 9
  | .wrFxCacheL v => writeCommand 9 v
  | .rdFxAccum => readCommand 10
  | .wrFxCacheM v => writeCommand 10 v
  | .rdFxCacheH => readCommand 11
  | .wrFxCacheH v => writeCommand 11 v
  | .rdFxCacheU => readCommand 12
  | .wrFxCacheU v => writeCommand 12 v
  | .rdUndef0 _ => readCommand 9
  | .wrUndef0 _ v => writeCommand 9 v
  | .rdUndef1 _ => readCommand 10
  | .wrUndef1 _ v => writeCommand 10 v
  | .rdUndef2 _ => readCommand 11
  | .wrUndef2 _ v => writeCommand 11 v
  | .rdUndef3 _ => readCommand 12
  | .wrUndef3 _ v => writeCommand 12 v
  | .rdL0Config => readCommand 13
  | .wrL0Config v => writeCommand 13 v
  | .rdL0Mapbase => readCommand 14
  | .wrL0Mapbase v => writeCommand 14 v
  | .rdL0Tilebase => readCommand 15
  | .wrL0Tilebase v => writeCommand 15 v
  | .rdL0HscrollL => readCommand 16
  | .wrL0HscrollL v => writeCommand 16 v
  | .rdL0HscrollH => readCommand 17
  | .wrL0HscrollH v => writeCommand 17 v
  | .rdL0VscrollL => readCommand 18
  | .wrL0VscrollL v => writeCommand 18 v
  | .rdL0VscrollH => readCommand 19
  | .wrL0VscrollH v => writeCommand 19 v
  | .rdL1Config => readCommand 20
  | .wrL1Config v => writeCommand 20 v
  | .rdL1Mapbase => readCommand 21
  | .wrL1Mapbase v => writeCommand 21 v
  | .rdL1Tilebase => readCommand 22
  | .wrL1Tilebase v => writeCommand 22 v
  | .rdL1HscrollL => readCommand 23
  | .wrL1HscrollL v => writeCommand 23 v
  | .rdL1HscrollH => readCommand 24
  | .wrL1HscrollH v => writeCommand 24 v
  | .rdL1VscrollL => readCommand 25
  | .wrL1VscrollL v => writeCommand 25 v
  | .rdL1VscrollH => readCommand 26
  | .wrL1VscrollH v => writeCommand 26 v
  | .rdAudioCtrl => readCommand 27
  | .wrAudioCtrl v => writeCommand 27 v
  | .rdAudioRate => readCommand 28
  | .wrAudioRate v => writeCommand 28 v
  | .rdAudioData => readCommand 29
  | .wrAudioData v => writeCommand 29 v
  | .rdSpiData => readCommand 30
  | .wrSpiData v => writeCommand 30 v
  | .rdSpiCtrl => readCommand 31
  | .wrSpiCtrl v => writeCommand 31 v
  | .drdAddrL => debugReadCommand 0
  | .drdAddrM => debugReadCommand 1
  | .drdAddrH => debugReadCommand 2
  | .drdData0 => debugReadCommand 3
  | .drdData1 => debugReadCommand 4
  | .drdCtrl => debugReadCommand 5
  | .drdIen => debugReadCommand 6
  | .drdIsr => debugReadCommand 7
  | .drdScanlineL => debugReadCommand 8
  | .drdComp9 => debugReadCommand 9
  | .drdComp10 => debugReadCommand 10
  | .drdComp11 => debugReadCommand 11
  | .drdComp12 => debugReadCommand 12
  | .drdL0Config => debugReadCommand 13
  | .drdL0Mapbase => debugReadCommand 14
  | .drdL0Tilebase => debugReadCommand 15
  | .drdL0HscrollL => debugReadCommand 16
  | .drdL0HscrollH => debugReadCommand 17
  | .drdL0VscrollL => debugReadCommand 18
  | .drdL0VscrollH => debugReadCommand 19
  | .drdL1Config => debugReadCommand 20
  | .drdL1Mapbase => debugReadCommand 21
  | .drdL1Tilebase => debugReadCommand 22
  | .drdL1HscrollL => debugReadCommand 23
  | .drdL1HscrollH => debugReadCommand 24
  | .drdL1VscrollL => debugReadCommand 25
  | .drdL1VscrollH => debugReadCommand 26
  | .drdAudioCtrl => debugReadCommand 27
  | .drdAudioRate => debugReadCommand 28
  | .drdAudioData => debugReadCommand 29
  | .drdSpiData => debugReadCommand 30
  | .drdSpiCtrl => debugReadCommand 31
  | .hostReset => hostCallCommand 0 0
  | .hostStep n => hostCallCommand 1 n
  | .hostIrqQuery => hostCallCommand 2 0
  | .hostFramebuffer => hostCallCommand 3 0
  | .hostDump => hostCallCommand 4 0
  | .hostSkipQuery => hostCallCommand 5 0

/-- The operation the decoder reads from a 16-bit table word whose STEP operand is 0, with DCSEL at
its reset value 0 (the table's words do not carry DCSEL: notes/assumptions/2.md). A row has one 16-bit
word, so any other length spells no operation. -/
def decodeTableWord (nbits w : Nat) : Option Instr :=
  if nbits = 16 then
    match decode 0 ⟨BitVec.ofNat 16 w, 0⟩ with
    | .ok i => some i
    | .error _ => none
  else none

end Sys2Proof
end

