-- ==== Sys2Proof/Machine/State.lean ====
section
/-! DEFINITION. State: the complete architectural state of one device instance (spec/10_state.md R20) as
plain data, with the model's own fields for what the spec puts outside the device (the configuration
parameters, the external inputs, the commands the host has yet to present, and what the device has
emitted and returned); the reasons a step can stop; and the state after reset
(spec/70_reset_and_hazards.md R430). -/

namespace Sys2Proof.Machine

/-- One address port (R22 to R26). -/
structure Port where
  /-- `ADDR[p]` (R22): 17-bit VRAM byte address. -/
  addr : VAddr
  /-- `INC[p]` (R23): 5-bit index into the increment table. -/
  inc : BitVec 5
  /-- `NIB[p]` (R24): false selects the high nibble, true the low nibble. -/
  nib : Bool
  /-- `NIBINC[p]` (R25): auto nibble increment. -/
  nibInc : Bool
  /-- `RDDATA[p]` (R26): the byte a read of the port's data window returns. -/
  rdData : Byte
  deriving DecidableEq, Repr

/-- The stored interrupt status bits (R30); AFLOW is a live input, not stored. -/
structure IntStatus where
  /-- `ISR_VSYNC`. -/
  vsync : Bool
  /-- `ISR_LINE`. -/
  line : Bool
  /-- `ISR_SPRCOL`. -/
  sprCol : Bool
  /-- `ISR_COLL`: the collision nibble latched at the last frame boundary. -/
  coll : BitVec 4
  deriving DecidableEq, Repr

/-- The FX engine's own state (R34 to R40). -/
structure Fx where
  /-- `FX_XPOS` (R35). -/
  xPos : Fixed
  /-- `FX_YPOS` (R35). -/
  yPos : Fixed
  /-- `FX_XINC` (R36). -/
  xInc : Fixed
  /-- `FX_YINC` (R36). -/
  yInc : Fixed
  /-- `FX_CACHE[0..3]` (R37), byte 0 the least significant. -/
  cache : Vector Byte 4
  /-- `FX_CBYTE` (R38): cache byte index. -/
  cByte : BitVec 2
  /-- `FX_CNIB` (R38): cache nibble index, false selects the high nibble next. -/
  cNib : Bool
  /-- `FX_ACC` (R39): the accumulator. -/
  acc : BitVec 32
  /-- `FX_HOPALIGN` (R40): the alignment the 16-bit hop compares against. -/
  hopAlign : BitVec 2
  deriving DecidableEq, Repr

/-- The seven raw registers of one layer, `LREG[l][0..6]` (R42). -/
structure LayerRegs where
  config : Byte
  mapBase : Byte
  tileBase : Byte
  hscrollL : Byte
  hscrollH : Byte
  vscrollL : Byte
  vscrollH : Byte
  deriving DecidableEq, Repr

/-- The scan-timing counters (R43) and the interlace field (R45). -/
structure Scan where
  /-- `VGA_X`, 0 to 799. -/
  vgaX : Nat
  /-- `VGA_Y`, 0 to 524. -/
  vgaY : Nat
  /-- `NTSC_X`, 0 to `NTSC_HALF_W` - 1. -/
  ntscX : Nat
  /-- `NTSC_Y`, 0 to 1049, in half-lines. -/
  ntscY : Nat
  /-- `FIELD`. -/
  field : Bool
  deriving DecidableEq, Repr

/-- The external inputs (spec/48_host_interfaces.md R380) as they stand during one host operation. -/
structure Inputs where
  /-- `AFLOW_IN`: the audio FIFO is low. -/
  aflow : Bool
  /-- `SKIP_IN`: the host loop's skip-frame request. -/
  skip : Bool
  /-- `AudioRegRead(k)`, k = 0 to 2. -/
  audioReg : Vector Byte 3
  /-- `SpiRead(k)`, k = 0 to 1. -/
  spi : Vector Byte 2
  deriving DecidableEq, Repr

/-- A host operation yet to be performed: the command the host presents and the external inputs that
stand while the device performs it. -/
structure PendingOp where
  command : HostCommand
  inputs : Inputs
  deriving DecidableEq, Repr

/-- An output event toward an external collaborator (R380). -/
inductive Event where
  /-- `AudioWrite(reg, value)`: a store landed in the audio shadow window (spec/20_memory.md R86). -/
  | audioWrite (reg : Nat) (value : Byte)
  /-- `AudioRegWrite(k, value)` (R381). -/
  | audioRegWrite (k : Fin 3) (value : Byte)
  /-- `SpiWrite(k, value)` (R383). -/
  | spiWrite (k : Fin 2) (value : Byte)
  deriving DecidableEq, Repr

/-- What the last host operation returned to the host (R110: a READ or DEBUG_READ returns one byte, a
WRITE nothing, a HOSTCALL what its rule says). -/
inductive HostResult where
  | nothing
  | byte (b : Byte)
  | flag (b : Bool)
  | bytes (bs : List Byte)
  deriving DecidableEq, Repr

/-- The state of one device instance (R20) and, after `fb`, the model's own fields. -/
structure State where
  /-- The VRAM bytes `V` (R21) that differ from what reset leaves or have been stored since: address
  and byte in rising order of address (`Memory.wf`). -/
  mem : List Host.Cell
  /-- Port 0 (R22 to R26). -/
  port0 : Port
  /-- Port 1 (R22 to R26). -/
  port1 : Port
  /-- `DCSEL` (R27). -/
  dcsel : BitVec 6
  /-- `ADDRSEL` (R27). -/
  addrSel : PortId
  /-- `IEN` (R28): bit 0 VSYNC, 1 LINE, 2 SPRCOL, 3 AFLOW. -/
  ien : BitVec 4
  /-- `IRQLINE` (R29). -/
  irqLine : BitVec 9
  /-- The interrupt status bits (R30). -/
  isr : IntStatus
  /-- `COMP[0..255]` (R31). -/
  comp : Vector Byte 256
  /-- The FX engine (R34 to R40). -/
  fx : Fx
  /-- `LREG[0]` (R42). -/
  layer0 : LayerRegs
  /-- `LREG[1]` (R42). -/
  layer1 : LayerRegs
  /-- The scan counters (R43, R45). -/
  scan : Scan
  /-- `COLL_ACC` (R46). -/
  collAcc : BitVec 4
  /-- `FB` (R47): the lines rendered since the last reset, rising by line number, 2560 bytes each
  (notes/assumptions/4.md). -/
  fb : List (Nat × List Byte)
  /-- The configuration parameters of this instance (R8, R9, R394; notes/assumptions/5.md). -/
  cfg : Config
  /-- The model's own (DESIGN CHOICE, notes/assumptions/3.md): how many resets have followed power-on; with
  the instance's `vramResetFill` and `frameResetFill` it selects the free values. -/
  epoch : Nat
  /-- The model's own (DESIGN CHOICE, notes/assumptions/6.md): the external inputs during the current host
  operation (R380). -/
  inputs : Inputs
  /-- The model's own (DESIGN CHOICE, notes/assumptions/1.md): the host operations the host has yet to present,
  first one first (R10). -/
  queue : List PendingOp
  /-- The model's own (DESIGN CHOICE, notes/assumptions/7.md): the events emitted so far, oldest first (R380). -/
  events : List Event
  /-- The model's own (DESIGN CHOICE, notes/assumptions/7.md): what the last host operation returned. -/
  result : HostResult
  deriving DecidableEq, Repr

/-- The reasons a step can fault: none. "The device has no exceptions ... the list of synchronous
exception causes is empty" (spec/60_exceptions.md R400), so the type has no constructor. -/
inductive Fault where
  deriving DecidableEq, Repr

/-- The reasons a step can be refused. -/
inductive Refusal where
  /-- Raised by `exec` for an operation that has no meaning yet (no arm raises it). Safe: the model stops. -/
  | notModelled (mnemonic : String)
  /-- Raised by `step` for a pending command word that spells no operation (spec/30_encoding.md R116:
  "A decoder returns \"invalid\" for these and a model refuses them"). Safe: the model stops. -/
  | invalidCommand (reason : DecodeError)
  deriving DecidableEq, Repr

/-- What a step answers. -/
abbrev Answer := Host.Outcome State Fault Refusal

/-- A port after reset (R22 to R26). -/
def Port.reset : Port := ⟨0, 0, false, false, 0⟩

/-- The interrupt status after reset (R30). -/
def IntStatus.reset : IntStatus := ⟨false, false, false, 0⟩

/-- The FX engine after reset (R35 to R40). -/
def Fx.reset : Fx := ⟨0, 0, 0, 0, #v[0, 0, 0, 0], 0, false, 0, 0⟩

/-- A layer's registers after reset (R42). -/
def LayerRegs.reset : LayerRegs := ⟨0, 0, 0, 0, 0, 0, 0⟩

/-- The scan counters after reset (R43, R45). -/
def Scan.reset : Scan := ⟨0, 0, 0, 0, false⟩

/-- The composer file after reset (R33): 0 but for the scale factors and the active area. -/
def compReset : Vector Byte 256 :=
  ((((Vector.replicate 256 0).set 1 128).set 2 128).set 5 160).set 7 240

/-- The external inputs of an instance with no collaborators (R8: "0 when there is no collaborator"). -/
def Inputs.idle : Inputs := ⟨false, false, #v[0, 0, 0], #v[0, 0]⟩

/-- The machine right after power-on reset (R430): no VRAM byte stored, no line rendered, every
parameter at its default, nothing pending, emitted or returned (the last three and the inputs are the model's,
DESIGN CHOICE, notes/assumptions/13.md). -/
def State.reset : State where
  mem := []
  port0 := Port.reset
  port1 := Port.reset
  dcsel := 0
  addrSel := .port0
  ien := 0
  irqLine := 0
  isr := IntStatus.reset
  comp := compReset
  fx := Fx.reset
  layer0 := LayerRegs.reset
  layer1 := LayerRegs.reset
  scan := Scan.reset
  collAcc := 0
  fb := []
  cfg := {}
  epoch := 0
  inputs := Inputs.idle
  queue := []
  events := []
  result := .nothing

end Sys2Proof.Machine
end

