-- ==== Sys2Proof/Machine/Operands.lean ====
section
/-! DEFINITION. Operands: how quantities are assembled from bytes (spec/30_encoding.md R115) and how a
register byte is assembled from its fields, as pure functions. -/

namespace Sys2Proof.Machine

/-! ## Named constants (spec/00_scope.md R7) -/

/-- `VRAM_SIZE`. -/
def vramSize : Nat := 131072

/-- `AUDIO_BASE`: first byte of the audio shadow window. -/
def audioBase : Nat := 0x1F9C0

/-- `PAL_BASE`: first byte of the palette window. -/
def palBase : Nat := 0x1FA00

/-- `SPR_BASE`: first byte of the sprite attribute window. -/
def sprBase : Nat := 0x1FC00

/-- `SCREEN_W`. -/
def screenW : Nat := 640

/-- `SCREEN_H`. -/
def screenH : Nat := 480

/-- Bytes of one framebuffer line: 640 pixels of 4 bytes (spec/10_state.md R47). -/
def lineBytes : Nat := 2560

/-! ## Ports -/

/-- The table `STEP[0..31]` (spec/10_state.md R23). -/
def stepTable : List Int :=
  [0, 0, 1, -1, 2, -2, 4, -4, 8, -8, 16, -16, 32, -32, 64, -64] ++
  [128, -128, 256, -256, 512, -512, 40, -40, 80, -80, 160, -160, 320, -320, 640, -640]

/-- `STEP[i]` (R23). -/
def stepOf (i : BitVec 5) : Int := stepTable.getD i.toNat 0

/-- An address moved by a signed amount, wrapping modulo `VRAM_SIZE` (spec/20_memory.md R83). -/
def addrPlus (a : VAddr) (d : Int) : VAddr := a + BitVec.ofInt 17 d

/-- The port address with its low byte replaced (spec/40_ports_and_control.md R141). -/
def withAddrL (a : VAddr) (v : Byte) : VAddr := (a &&& 0x1FF00#17) ||| v.setWidth 17

/-- The port address with its middle byte replaced (R143). -/
def withAddrM (a : VAddr) (v : Byte) : VAddr := (a &&& 0x100FF#17) ||| (v.setWidth 17 <<< 8)

/-- The port address with its bit 16 replaced by bit 0 of the byte (R145). -/
def withAddrH (a : VAddr) (v : Byte) : VAddr :=
  (a &&& 0x0FFFF#17) ||| ((v.extractLsb' 0 1).setWidth 17 <<< 16)

/-- The third port register as read: `{INC, NIBINC, NIB, ADDR[16]}` (R144). -/
def addrHByte (q : Port) : Byte :=
  q.inc ++ BitVec.ofBool q.nibInc ++ BitVec.ofBool q.nib ++ q.addr.extractLsb' 16 1

/-- The port number as a bit (R27). -/
def PortId.bit : PortId → BitVec 1
  | .port0 => 0
  | .port1 => 1

/-- The port a bit selects (R27). -/
def portOfBit (b : Bool) : PortId := if b then .port1 else .port0

/-- The CTRL register as read: `(DCSEL << 1) | ADDRSEL`, bit 7 zero (R150). -/
def ctrlByte (dcsel : BitVec 6) (p : PortId) : Byte := 0#1 ++ dcsel ++ PortId.bit p

/-! ## Display control (spec/10_state.md R32) -/

/-- `HSTART` or `HSTOP` from its register byte: units of 4 pixels. -/
def horizontalEdge (v : Byte) : Nat := v.toNat * 4

/-- `VSTART` or `VSTOP` from its register byte: units of 2 lines. -/
def verticalEdge (v : Byte) : Nat := v.toNat * 2

/-- A scaled coordinate (spec/46_compositor_palette.md R333, R334): 1.7 fixed-point scale factor. -/
def scaled (scale : Byte) (d : Nat) : Nat := scale.toNat * d / 128

/-- The DC_VIDEO byte: `FIELD` in bit 7, the other bits of `v` (spec/41_composer_registers.md R181, R182). -/
def videoByte (field : Bool) (v : Byte) : Byte := BitVec.ofBool field ++ v.extractLsb' 0 7

/-! ## FX registers (spec/42_fx_registers.md) -/

/-- `IncrOf(h, l)` (R212): 15-bit signed with 9 fraction bits to 16.16, times 32 when `h[7]`. -/
def incrOf (h l : Byte) : Fixed :=
  let base : Fixed := (h.extractLsb' 0 7 ++ l : BitVec 15).signExtend 32 <<< 7
  if h.getLsbD 7 then base <<< 5 else base

/-- A position after a write of its `_L` register (R214, R216). -/
def withPosL (p : Fixed) (v : Byte) : Fixed := (p &&& 0x0700FF80#32) ||| (v.setWidth 32 <<< 16)

/-- A position after a write of its `_H` register (R215, R217). -/
def withPosH (p : Fixed) (v : Byte) : Fixed :=
  (p &&& 0x00FFFF00#32) ||| ((v.extractLsb' 0 3).setWidth 32 <<< 24) |||
    ((v.extractLsb' 7 1).setWidth 32 <<< 7)

/-- A position after a write of its `_S` register (R218, R219). -/
def withPosS (p : Fixed) (v : Byte) : Fixed := (p &&& 0x07FF0080#32) ||| (v.setWidth 32 <<< 8)

/-- The integer part of a 16.16 value, by floor (spec/00_scope.md R15). -/
def fixedFloor (p : Fixed) : Int := p.toInt / 65536

/-- `SpanLength()` of two positions (spec/43_fx_engine.md R237): right minus left, clamped to 10 bits. -/
def spanLength (xPos yPos : Fixed) : BitVec 10 :=
  let raw := fixedFloor yPos - fixedFloor xPos
  if raw < 0 then 0 else if 1023 < raw then 1023 else BitVec.ofInt 10 raw

/-- FX_POLY_FILL_L as read (R222); `mode4` is the 4-bit mode. -/
def polyFillL (mode4 : Bool) (xPos yPos : Fixed) : Byte :=
  let s := spanLength xPos yPos
  if mode4 then
    BitVec.ofBool (decide (8 ≤ s.toNat)) ++ xPos.extractLsb' 16 2 ++ xPos.extractLsb' 15 1 ++
      s.extractLsb' 0 3 ++ 0#1
  else
    BitVec.ofBool (decide (16 ≤ s.toNat)) ++ xPos.extractLsb' 16 2 ++ s.extractLsb' 0 4 ++ 0#1

/-- FX_POLY_FILL_H as read (R223). -/
def polyFillH (xPos yPos : Fixed) : Byte := (spanLength xPos yPos).extractLsb' 3 7 ++ 0#1

/-- `Product()` of the cache's two 16-bit operands (spec/43_fx_engine.md R251). -/
def cacheProduct (bytes : Vector Byte 4) : BitVec 32 :=
  (bytes[1] ++ bytes[0] : BitVec 16).signExtend 32 * (bytes[3] ++ bytes[2] : BitVec 16).signExtend 32

/-- The affine tile or map base from its register byte (R32): bits 7:2 are address bits 16:11. -/
def affineBase (v : Byte) : Nat := (v.extractLsb' 2 6).toNat * 2048

/-- `AFF_MAPSIZE` from FX_MAPBASE (R32): 2, 8, 32 or 128 tiles per side. -/
def affineMapSize (v : Byte) : Nat := 2 <<< (2 * (v.extractLsb' 0 2).toNat)

/-! ## Layers (spec/44_layers.md R272) -/

/-- Log2 of the bits per pixel: the DEPTH code. -/
def LayerRegs.depth (r : LayerRegs) : Nat := (r.config.extractLsb' 0 2).toNat

/-- Bits per pixel. -/
def LayerRegs.bpp (r : LayerRegs) : Nat := 1 <<< LayerRegs.depth r

/-- BITMAP. -/
def LayerRegs.bitmap (r : LayerRegs) : Bool := r.config.getLsbD 2

/-- T256C. -/
def LayerRegs.t256c (r : LayerRegs) : Bool := r.config.getLsbD 3

/-- Log2 of the map width in tiles. -/
def LayerRegs.mapWLog2 (r : LayerRegs) : Nat := 5 + (r.config.extractLsb' 4 2).toNat

/-- Log2 of the map height in tiles. -/
def LayerRegs.mapHLog2 (r : LayerRegs) : Nat := 5 + (r.config.extractLsb' 6 2).toNat

/-- Log2 of the tile width in pixels. -/
def LayerRegs.tileWLog2 (r : LayerRegs) : Nat := 3 + (r.tileBase.extractLsb' 0 1).toNat

/-- Log2 of the tile height in pixels. -/
def LayerRegs.tileHLog2 (r : LayerRegs) : Nat := 3 + (r.tileBase.extractLsb' 1 1).toNat

/-- `MAPBASE << 9`. -/
def LayerRegs.mapAddr (r : LayerRegs) : Nat := r.mapBase.toNat * 512

/-- `TILEBASE[7:2] << 11`. -/
def LayerRegs.tileAddr (r : LayerRegs) : Nat := (r.tileBase.extractLsb' 2 6).toNat * 2048

/-- `HSCROLL = {HSCROLL_H[3:0], HSCROLL_L}`. -/
def LayerRegs.hscroll (r : LayerRegs) : Nat := (r.hscrollH.extractLsb' 0 4 ++ r.hscrollL).toNat

/-- `VSCROLL = {VSCROLL_H[3:0], VSCROLL_L}`. -/
def LayerRegs.vscroll (r : LayerRegs) : Nat := (r.vscrollH.extractLsb' 0 4 ++ r.vscrollL).toNat

/-- Width of a text or tile layer in pixels. -/
def LayerRegs.layerW (r : LayerRegs) : Nat := 1 <<< (LayerRegs.mapWLog2 r + LayerRegs.tileWLog2 r)

/-- Height of a text or tile layer in pixels. -/
def LayerRegs.layerH (r : LayerRegs) : Nat := 1 <<< (LayerRegs.mapHLog2 r + LayerRegs.tileHLog2 r)

/-- Width of a bitmap layer in pixels. -/
def LayerRegs.bitmapW (r : LayerRegs) : Nat := if r.tileBase.getLsbD 0 then 640 else 320

/-- Height of a bitmap layer in pixels: the display's fixed height. -/
def LayerRegs.bitmapH (_r : LayerRegs) : Nat := 480

/-- The palette-offset nibble of a bitmap layer. -/
def LayerRegs.bitmapPalOffset (r : LayerRegs) : BitVec 4 := r.hscrollH.extractLsb' 0 4

/-- `PalOffset(c, off)` (R280). -/
def palOffset (c : Byte) (off : BitVec 4) : Byte :=
  if 0 < c.toNat ∧ c.toNat < 16 then c + (off ++ 0#4) else c

/-- `Extract(byte, x)` (R279): the `x`-th pixel of a byte of packed pixels, leftmost in the top bits. -/
def extractPixel (bpp : Nat) (b : Byte) (x : Nat) : Byte :=
  BitVec.ofNat 8 ((b.toNat >>> (8 - bpp - x * bpp % 8)) % 2 ^ bpp)

/-! ## Sprites (spec/45_sprites.md R311) -/

/-- The geometry of one sprite, derived from its 8-byte record (R311). -/
structure Sprite where
  /-- Pixel-data address, 32-byte granularity. -/
  data : Nat
  /-- 8 bits per pixel (else 4). -/
  mode8 : Bool
  /-- Width in pixels: 8, 16, 32 or 64. -/
  w : Nat
  /-- Height in pixels: 8, 16, 32 or 64. -/
  h : Nat
  /-- Left edge, -w to 1023-w. -/
  x : Int
  /-- Top edge, -h to 1023-h. -/
  y : Int
  hflip : Bool
  vflip : Bool
  /-- z-depth: 0 hidden. -/
  z : BitVec 2
  /-- Collision mask. -/
  mask : BitVec 4
  /-- Palette nibble offset. -/
  palOff : BitVec 4
  deriving DecidableEq, Repr

/-- A 10-bit position, negative from `1024 - extent` on (R311). -/
def signedPosition (p : BitVec 10) (extent : Nat) : Int :=
  if 1024 - extent ≤ p.toNat then (p.toNat : Int) - 1024 else p.toNat

/-- The geometry of a sprite from its record bytes `b 0` to `b 7` (R311). -/
def spriteOf (b : Nat → Byte) : Sprite :=
  let w := 8 <<< ((b 7).extractLsb' 4 2).toNat
  let h := 8 <<< ((b 7).extractLsb' 6 2).toNat
  { data := ((b 1).extractLsb' 0 4 ++ b 0).toNat * 32
    mode8 := (b 1).getLsbD 7
    w := w
    h := h
    x := signedPosition ((b 3).extractLsb' 0 2 ++ b 2) w
    y := signedPosition ((b 5).extractLsb' 0 2 ++ b 4) h
    hflip := (b 6).getLsbD 0
    vflip := (b 6).getLsbD 1
    z := (b 6).extractLsb' 2 2
    mask := (b 6).extractLsb' 4 4
    palOff := (b 7).extractLsb' 0 4 }

/-! ## Palette (spec/46_compositor_palette.md R340, R343) -/

/-- A 24-bit colour. -/
structure Rgb where
  r : Byte
  g : Byte
  b : Byte
  deriving DecidableEq, Repr

/-- `GREY(r4, g4, b4)` under its parameter (R343): the 12-bit `r,g,b` result. -/
def greyOf (rule : GreyRule) (rgb : BitVec 12) : BitVec 12 :=
  match rule with
  | .weighted =>
    let m := BitVec.ofNat 4 (((rgb.extractLsb' 8 4).toNat + (rgb.extractLsb' 0 4).toNat +
      2 * (rgb.extractLsb' 4 4).toNat) / 4)
    m ++ m ++ m
  | .table entries => entries.getD rgb.toNat 0

/-- The expansion of a 12-bit colour to 24 bits by nibble replication (R340). -/
def expandRgb (rgb : BitVec 12) : Rgb :=
  let r := rgb.extractLsb' 8 4
  let g := rgb.extractLsb' 4 4
  let b := rgb.extractLsb' 0 4
  ⟨r ++ r, g ++ g, b ++ b⟩

/-- The four framebuffer bytes of a pixel: B, G, R, A = 0xFF (R342). -/
def pixelBytes (c : Rgb) : List Byte := [c.b, c.g, c.r, 0xFF]

/-- A 24-bit RGB number as a colour (R8 `DISABLED_COLOR`). -/
def rgbOfNumber (n : BitVec 24) : Rgb := ⟨n.extractLsb' 16 8, n.extractLsb' 8 8, n.extractLsb' 0 8⟩

end Sys2Proof.Machine
end

