-- ==== Sys2Proof/Machine/Ops.lean ====
section
/-! DEFINITION. Ops: the named operations over the state. VRAM reads and the side-effecting VRAM store
(spec/20_memory.md R85, R86), the composer file (spec/10_state.md R31), the framebuffer lines (R47), the
one-field updates, and the one reset procedure (spec/70_reset_and_hazards.md R430). The device takes no
exception and returns from none (spec/60_exceptions.md R400, R408); what its interrupt system does is in
`Flags`. -/

namespace Sys2Proof.Machine

/-! ## VRAM -/

/-- What reset leaves at a VRAM address (R21, R430), where the spec says: 0 in the audio and sprite
windows, the default palette's byte in the palette window where the instance has one; none where it
is unspecified. -/
def vramDefault (cfg : Config) (a : Nat) : Option Byte :=
  if a < audioBase then none
  else if a < palBase then some 0
  else if a < sprBase then
    match cfg.defaultPalette with
    | none => none
    | some entries =>
      match entries[(a - palBase) / 2]? with
      | none => none
      | some p => some (if (a - palBase) % 2 = 0 then p.extractLsb' 0 8 else (p.extractLsb' 8 4).setWidth 8)
  else some 0

/-- The byte listed at an address, if any. -/
def Memory.lookup : List Host.Cell → Nat → Option Byte
  | [], _ => none
  | (k, b) :: m, a => if k = a then some b else Memory.lookup m a

/-- The list with the byte at an address set to `v`, in rising order. -/
def Memory.insert (a : Nat) (v : Byte) : List Host.Cell → List Host.Cell
  | [] => [(a, v)]
  | (k, b) :: m =>
    if a < k then (a, v) :: (k, b) :: m
    else if a = k then (a, v) :: m
    else (k, b) :: Memory.insert a v m

/-- The list without any entry at an address. -/
def Memory.erase (a : Nat) : List Host.Cell → List Host.Cell
  | [] => []
  | (k, b) :: m => if k = a then Memory.erase a m else (k, b) :: Memory.erase a m

/-- One byte stored, keeping the canonical form: a byte equal to what reset leaves is not listed. -/
def Memory.write (cfg : Config) (m : List Host.Cell) (a : Nat) (v : Byte) : List Host.Cell :=
  if vramDefault cfg a = some v then Memory.erase a m else Memory.insert a v m

/-- Addresses strictly rise, starting at `low` or above. -/
def Memory.rising : Nat → List Host.Cell → Bool
  | _, [] => true
  | low, (k, _) :: m => decide (low ≤ k) && Memory.rising (k + 1) m

/-- The canonical form of VRAM: addresses strictly rising and below `VRAM_SIZE`, and no entry equal to
what reset leaves at its address. -/
def Memory.wf (cfg : Config) (m : List Host.Cell) : Bool :=
  Memory.rising 0 m && m.all (fun c => decide (c.1 < vramSize) && vramDefault cfg c.1 != some c.2)

/-- `V[a]` (R14, R85): the byte stored there, else what reset left there, else the instance's own
free value of that byte since its last reset (R8, R394). -/
def State.readByte (s : State) (a : VAddr) : Byte :=
  match Memory.lookup s.mem a.toNat with
  | some b => b
  | none =>
    match vramDefault s.cfg a.toNat with
    | some b => b
    | none => Config.vramFill s.cfg.vramResetFill s.epoch a.toNat

/-- `V[n mod VRAM_SIZE]` (R13, R83): the renderers' addresses are sums of naturals. -/
def State.vram (s : State) (n : Nat) : Byte := s.readByte (BitVec.ofNat 17 n)

/-! ## One-field updates -/

/-- The state with its VRAM list replaced. -/
def State.setMem (m : List Host.Cell) (s : State) : State := { s with mem := m }

/-- Port `p` of the state. -/
def State.port (s : State) : PortId → Port
  | .port0 => s.port0
  | .port1 => s.port1

/-- The state with port `p` replaced. -/
def State.setPort (p : PortId) (q : Port) (s : State) : State :=
  match p with
  | .port0 => { s with port0 := q }
  | .port1 => { s with port1 := q }

/-- The state with the CTRL fields replaced. -/
def State.setCtrl (dcsel : BitVec 6) (addrSel : PortId) (s : State) : State :=
  { s with dcsel := dcsel, addrSel := addrSel }

/-- The state with the interrupt enables replaced. -/
def State.setIen (ien : BitVec 4) (s : State) : State := { s with ien := ien }

/-- The state with the line compare value replaced. -/
def State.setIrqLine (line : BitVec 9) (s : State) : State := { s with irqLine := line }

/-- The state with the interrupt status bits replaced. -/
def State.setIsr (isr : IntStatus) (s : State) : State := { s with isr := isr }

/-- The state with the composer file replaced. -/
def State.setComp (comp : Vector Byte 256) (s : State) : State := { s with comp := comp }

/-- The state with the FX engine's registers replaced. -/
def State.setFx (fx : Fx) (s : State) : State := { s with fx := fx }

/-- The state with layer 0's registers replaced. -/
def State.setLayer0 (r : LayerRegs) (s : State) : State := { s with layer0 := r }

/-- The state with layer 1's registers replaced. -/
def State.setLayer1 (r : LayerRegs) (s : State) : State := { s with layer1 := r }

/-- The state with the scan counters replaced. -/
def State.setScan (scan : Scan) (s : State) : State := { s with scan := scan }

/-- The state with the sprite collision accumulator replaced. -/
def State.setCollAcc (c : BitVec 4) (s : State) : State := { s with collAcc := c }

/-- The state with the framebuffer lines replaced. -/
def State.setFb (fb : List (Nat × List Byte)) (s : State) : State := { s with fb := fb }

/-- An event emitted (R380: in the order the host operations cause them). -/
def State.emit (e : Event) (s : State) : State := { s with events := s.events ++ [e] }

/-- What the host operation returns. -/
def State.returning (r : HostResult) (s : State) : State := { s with result := r }

/-- The host operation completes and returns one byte. -/
def answerByte (b : Byte) (s : State) : Answer := .next (s.returning (.byte b))

/-- The host operation completes and returns nothing. -/
def answerNothing (s : State) : Answer := .next (s.returning .nothing)

/-! ## Stores -/

/-- `MemWrite(a, 1, v)` (R86): the byte stored, and one `AudioWrite` event when the address lies in the
audio shadow window. The palette and sprite windows' side effects change no state (R86, R94). -/
def memWrite (a : VAddr) (v : Byte) (s : State) : State :=
  let s' := s.setMem (Memory.write s.cfg s.mem a.toNat v)
  if audioBase ≤ a.toNat ∧ a.toNat < palBase then
    s'.emit (.audioWrite (a.toNat - audioBase) v)
  else s'

/-- The read cache of port `p` refilled from its address (spec/10_state.md R26). -/
def reprime (p : PortId) (s : State) : State :=
  s.setPort p { s.port p with rdData := s.readByte (s.port p).addr }

/-- A byte stored in composer slot `slot` (R31): unmodified, but for bit 7 of slot 0, which stays equal
to `FIELD` (R45; DEDUCED, notes/assumptions/10.md). -/
def storeSlot (slot : BitVec 8) (v : Byte) (s : State) : State :=
  s.setComp (s.comp.set slot.toNat (if slot = 0 then videoByte s.scan.field v else v) slot.isLt)

/-- The undefined composer slot `DCSEL*4 + k` of a bank (R189). -/
def undefinedSlot (bank : BitVec 6) (k : BitVec 2) : BitVec 8 := bank ++ k

/-- One byte of the version string (spec/41_composer_registers.md R190). -/
def versionByte (k : BitVec 2) (s : State) : Byte := s.cfg.versionBytes[k.toNat]'k.isLt

/-! ## Views of the composer file (spec/10_state.md R32, R41) -/

/-- `OUT_MODE`. -/
def State.outMode (s : State) : BitVec 2 := s.comp[0].extractLsb' 0 2

/-- The NTSC raster is active (R44, spec/47_scan_timing.md R353). -/
def State.ntscActive (s : State) : Bool := s.comp[0].getLsbD 1

/-- `A1MODE`. -/
def State.a1Mode (s : State) : BitVec 2 := s.comp[8].extractLsb' 0 2

/-- `MODE4`. -/
def State.mode4 (s : State) : Bool := s.comp[8].getLsbD 2

/-- `HOP16`. -/
def State.hop16 (s : State) : Bool := s.comp[8].getLsbD 3

/-- `CACHE_CYC`. -/
def State.cacheCyc (s : State) : Bool := s.comp[8].getLsbD 4

/-- `CACHE_FILL`. -/
def State.cacheFill (s : State) : Bool := s.comp[8].getLsbD 5

/-- `CACHE_WR`. -/
def State.cacheWr (s : State) : Bool := s.comp[8].getLsbD 6

/-- `TRANSP`. -/
def State.transp (s : State) : Bool := s.comp[8].getLsbD 7

/-- `AFF_CLIP`. -/
def State.affClip (s : State) : Bool := s.comp[9].getLsbD 1

/-- `SUBTRACT`. -/
def State.subtract (s : State) : Bool := s.comp[11].getLsbD 5

/-- `MULT_EN`. -/
def State.multEn (s : State) : Bool := s.comp[11].getLsbD 4

/-- `CACHE_INC2`. -/
def State.cacheInc2 (s : State) : Bool := s.comp[11].getLsbD 0

/-- What a READ of a composer slot returns, without the side effect slots 24 and 25 have
(R181 to R198, R200 to R203, R222 to R225, R190): slots 0 to 8 their byte (slot 0 with FIELD), 22 and
23 the span length, every other slot the version string. -/
def slotRead (slot : BitVec 8) (s : State) : Byte :=
  if slot = 0 then videoByte s.scan.field s.comp[0]
  else if slot.toNat ≤ 8 then s.comp[slot.toNat]'slot.isLt
  else if slot = 22 then polyFillL s.mode4 s.fx.xPos s.fx.yPos
  else if slot = 23 then polyFillH s.fx.xPos s.fx.yPos
  else versionByte (slot.extractLsb' 0 2) s

/-! ## Framebuffer lines (R47) -/

/-- The framebuffer lines with line `y` replaced, rising by line number. -/
def FrameLines.put (y : Nat) (bytes : List Byte) : List (Nat × List Byte) → List (Nat × List Byte)
  | [] => [(y, bytes)]
  | (k, b) :: fb =>
    if y < k then (y, bytes) :: (k, b) :: fb
    else if y = k then (y, bytes) :: fb
    else (k, b) :: FrameLines.put y bytes fb

/-- Line `y` of the framebuffer, if it has been rendered since the last reset. -/
def FrameLines.get : List (Nat × List Byte) → Nat → Option (List Byte)
  | [], _ => none
  | (k, b) :: fb, y => if k = y then some b else FrameLines.get fb y

/-- Line numbers strictly rise, starting at `low` or above. -/
def FrameLines.rising : Nat → List (Nat × List Byte) → Bool
  | _, [] => true
  | low, (k, _) :: fb => decide (low ≤ k) && FrameLines.rising (k + 1) fb

/-- The framebuffer's form: line numbers strictly rising and below 480, 2560 bytes a line. -/
def FrameLines.wf (fb : List (Nat × List Byte)) : Bool :=
  FrameLines.rising 0 fb && fb.all (fun l => decide (l.1 < screenH) && l.2.length == lineBytes)

/-- Byte `k` of the framebuffer (R389): from the line's last render, else the instance's
own free value (R394). -/
def State.fbByte (s : State) (k : Nat) : Byte :=
  match FrameLines.get s.fb (k / lineBytes) with
  | some line => line.getD (k % lineBytes) 0
  | none => Config.frameFill s.cfg.frameResetFill s.epoch k

/-- Line `y` of the framebuffer written whole. -/
def State.putLine (y : Nat) (bytes : List Byte) (s : State) : State :=
  s.setFb (FrameLines.put y bytes s.fb)

/-! ## Reset -/

/-- `Reset()` (R430): the values of the spec's table. The unspecified parts (general VRAM, the palette
without a `DEFAULT_PALETTE`, the framebuffer) are drawn anew: nothing listed and the next epoch. The
parameters, the inputs, the pending operations and the events already emitted are outside the device. -/
def resetDevice (s : State) : State :=
  { State.reset with
    cfg := s.cfg
    epoch := s.epoch + 1
    inputs := s.inputs
    queue := s.queue
    events := s.events
    result := s.result }

end Sys2Proof.Machine
end

