-- ==== Sys2Proof/Machine/Composer.lean ====
section
/-! DEFINITION. Composer: the meanings of the host operations on composer slots 0 to 7 and on the
undefined slots (spec/41_composer_registers.md). An operation acts on the slot its constructor names;
`step` runs it when DCSEL selects that slot's bank. -/

namespace Sys2Proof.Machine

/-- `RD DC_VIDEO` (R181): `(FIELD << 7) | COMP[0][6:0]`. -/
def execRdDcVideo (s : State) : Answer :=
  answerByte (slotRead 0 s) s

/-- `WR DC_VIDEO` (R182): `COMP[0] <- (FIELD << 7) | v[6:0]`. -/
def execWrDcVideo (v : Byte) (s : State) : Answer :=
  answerNothing (storeSlot 0 v s)

/-- `RD DC_HSCALE` (R183): `COMP[1]`. -/
def execRdDcHscale (s : State) : Answer :=
  answerByte (slotRead 1 s) s

/-- `WR DC_HSCALE` (R184): `COMP[1] <- v`. -/
def execWrDcHscale (v : Byte) (s : State) : Answer :=
  answerNothing (storeSlot 1 v s)

/-- `RD DC_VSCALE` (R185): `COMP[2]`. -/
def execRdDcVscale (s : State) : Answer :=
  answerByte (slotRead 2 s) s

/-- `WR DC_VSCALE` (R186): `COMP[2] <- v`. -/
def execWrDcVscale (v : Byte) (s : State) : Answer :=
  answerNothing (storeSlot 2 v s)

/-- `RD DC_BORDER` (R187): `COMP[3]`. -/
def execRdDcBorder (s : State) : Answer :=
  answerByte (slotRead 3 s) s

/-- `WR DC_BORDER` (R188): `COMP[3] <- v`. -/
def execWrDcBorder (v : Byte) (s : State) : Answer :=
  answerNothing (storeSlot 3 v s)

/-- `RD DC_HSTART` (R191): `COMP[4]`. -/
def execRdDcHstart (s : State) : Answer :=
  answerByte (slotRead 4 s) s

/-- `WR DC_HSTART` (R192): `COMP[4] <- v`. -/
def execWrDcHstart (v : Byte) (s : State) : Answer :=
  answerNothing (storeSlot 4 v s)

/-- `RD DC_HSTOP` (R193): `COMP[5]`. -/
def execRdDcHstop (s : State) : Answer :=
  answerByte (slotRead 5 s) s

/-- `WR DC_HSTOP` (R194): `COMP[5] <- v`. -/
def execWrDcHstop (v : Byte) (s : State) : Answer :=
  answerNothing (storeSlot 5 v s)

/-- `RD DC_VSTART` (R195): `COMP[6]`. -/
def execRdDcVstart (s : State) : Answer :=
  answerByte (slotRead 6 s) s

/-- `WR DC_VSTART` (R196): `COMP[6] <- v`. -/
def execWrDcVstart (v : Byte) (s : State) : Answer :=
  answerNothing (storeSlot 6 v s)

/-- `RD DC_VSTOP` (R197): `COMP[7]`. -/
def execRdDcVstop (s : State) : Answer :=
  answerByte (slotRead 7 s) s

/-- `WR DC_VSTOP` (R198): `COMP[7] <- v`. -/
def execWrDcVstop (v : Byte) (s : State) : Answer :=
  answerNothing (storeSlot 7 v s)

/-- `RD UNDEF0` (R190): byte 0 of the version string, whatever the bank. -/
def execRdUndef0 (bank : BitVec 6) (s : State) : Answer :=
  answerByte (slotRead (undefinedSlot bank 0) s) s

/-- `WR UNDEF0` (R189): `COMP[DCSEL*4 + 0] <- v`, no other effect. -/
def execWrUndef0 (bank : BitVec 6) (v : Byte) (s : State) : Answer :=
  answerNothing (storeSlot (undefinedSlot bank 0) v s)

/-- `RD UNDEF1` (R190): byte 1 of the version string, whatever the bank. -/
def execRdUndef1 (bank : BitVec 6) (s : State) : Answer :=
  answerByte (slotRead (undefinedSlot bank 1) s) s

/-- `WR UNDEF1` (R189): `COMP[DCSEL*4 + 1] <- v`, no other effect. -/
def execWrUndef1 (bank : BitVec 6) (v : Byte) (s : State) : Answer :=
  answerNothing (storeSlot (undefinedSlot bank 1) v s)

/-- `RD UNDEF2` (R190): byte 2 of the version string, whatever the bank. -/
def execRdUndef2 (bank : BitVec 6) (s : State) : Answer :=
  answerByte (slotRead (undefinedSlot bank 2) s) s

/-- `WR UNDEF2` (R189): `COMP[DCSEL*4 + 2] <- v`, no other effect. -/
def execWrUndef2 (bank : BitVec 6) (v : Byte) (s : State) : Answer :=
  answerNothing (storeSlot (undefinedSlot bank 2) v s)

/-- `RD UNDEF3` (R190): byte 3 of the version string, whatever the bank. -/
def execRdUndef3 (bank : BitVec 6) (s : State) : Answer :=
  answerByte (slotRead (undefinedSlot bank 3) s) s

/-- `WR UNDEF3` (R189): `COMP[DCSEL*4 + 3] <- v`, no other effect. -/
def execWrUndef3 (bank : BitVec 6) (v : Byte) (s : State) : Answer :=
  answerNothing (storeSlot (undefinedSlot bank 3) v s)

end Sys2Proof.Machine
end

