-- ==== Sys2Proof/Machine/Flags.lean ====
section
/-! DEFINITION. Flags: the interrupt status bits, everything that sets or clears one, and the level
output computed from them (spec/60_exceptions.md R402 to R407). This is the device's whole part in the
host's interrupt system (R408): an event sets a status bit, the output follows, the host clears the bit.
The device saves nothing, enters no handler and returns from none. -/

namespace Sys2Proof.Machine

/-- The four source bits `{AFLOW_IN, ISR_SPRCOL, ISR_LINE, ISR_VSYNC}` (R405). -/
def sourceBits (s : State) : BitVec 4 :=
  BitVec.ofBool s.inputs.aflow ++ BitVec.ofBool s.isr.sprCol ++ BitVec.ofBool s.isr.line ++
    BitVec.ofBool s.isr.vsync

/-- The interrupt output (R405): a level, the OR over the four sources of status AND enable. -/
def irqOutput (s : State) : Bool := s.ien &&& sourceBits s != 0

/-- The ISR register as read (spec/40_ports_and_control.md R158). -/
def isrByte (s : State) : Byte := s.isr.coll ++ sourceBits s

/-- Write-one-to-clear of bits 2:0 (R159); bits 7:3 of the byte are ignored. -/
def acknowledge (v : Byte) (s : State) : State :=
  s.setIsr
    { s.isr with
      vsync := s.isr.vsync && !v.getLsbD 0
      line := s.isr.line && !v.getLsbD 1
      sprCol := s.isr.sprCol && !v.getLsbD 2 }

/-- `FrameBoundary()` (spec/47_scan_timing.md R360): frame interrupt, collision latch, accumulator
cleared. Its report of a new frame is the result of the tick that runs it. -/
def frameBoundary (s : State) : State :=
  (s.setIsr
    { s.isr with
      vsync := true
      coll := s.collAcc
      sprCol := s.isr.sprCol || s.collAcc != 0 }).setCollAcc 0

/-- `LineCompare` and `LineCompareNTSC` (R361): the line interrupt when a visible line's number equals
the compare value. -/
def lineCompare (line : Int) (compare : BitVec 9) (s : State) : State :=
  if 0 ≤ line ∧ line < screenH ∧ line = compare.toNat then s.setIsr { s.isr with line := true } else s

/-- The line number of the active raster (spec/40_ports_and_control.md R162). -/
def currentLine (s : State) : Nat := if s.ntscActive then s.scan.ntscY % 525 else s.scan.vgaY

/-- `SCANLINE` (R162): the low 9 bits of the active raster's line number. -/
def scanline (s : State) : BitVec 9 := BitVec.ofNat 9 (currentLine s)

/-- The IEN register as read (R152). -/
def ienByte (s : State) : Byte :=
  s.irqLine.extractLsb' 8 1 ++ (scanline s).extractLsb' 8 1 ++ 0#2 ++ s.ien

end Sys2Proof.Machine
end

