-- ==== Sys2Proof/Machine/Debug.lean ====
section
/-! DEFINITION. Debug: the meanings of the 32 debug reads (spec/48_host_interfaces.md R388): the byte a
READ of the same index would return, no state changed, no event emitted. -/

namespace Sys2Proof.Machine

/-- `DRD ADDR_L` (R388): what READ of the index returns, with no state changed. -/
def execDrdAddrL (s : State) : Answer :=
  answerByte ((s.port s.addrSel).addr.extractLsb' 0 8) s

/-- `DRD ADDR_M` (R388): what READ of the index returns, with no state changed. -/
def execDrdAddrM (s : State) : Answer :=
  answerByte ((s.port s.addrSel).addr.extractLsb' 8 8) s

/-- `DRD ADDR_H` (R388): what READ of the index returns, with no state changed. -/
def execDrdAddrH (s : State) : Answer :=
  answerByte (addrHByte (s.port s.addrSel)) s

/-- `DRD DATA0` (R388): `RDDATA[0]`: the byte a READ would return, with none of its steps. -/
def execDrdData0 (s : State) : Answer :=
  answerByte s.port0.rdData s

/-- `DRD DATA1` (R388): `RDDATA[1]`: the byte a READ would return, with none of its steps. -/
def execDrdData1 (s : State) : Answer :=
  answerByte s.port1.rdData s

/-- `DRD CTRL` (R388): what READ of the index returns, with no state changed. -/
def execDrdCtrl (s : State) : Answer :=
  answerByte (ctrlByte s.dcsel s.addrSel) s

/-- `DRD IEN` (R388): what READ of the index returns, with no state changed. -/
def execDrdIen (s : State) : Answer :=
  answerByte (ienByte s) s

/-- `DRD ISR` (R388): what READ of the index returns, with no state changed. -/
def execDrdIsr (s : State) : Answer :=
  answerByte (isrByte s) s

/-- `DRD SCANLINE_L` (R388): what READ of the index returns, with no state changed. -/
def execDrdScanlineL (s : State) : Answer :=
  answerByte ((scanline s).extractLsb' 0 8) s

/-- `DRD COMP9` (R388): what READ of slot `DCSEL*4 + 0` returns, with no side effect. -/
def execDrdComp9 (s : State) : Answer :=
  answerByte (slotRead (undefinedSlot s.dcsel 0) s) s

/-- `DRD COMP10` (R388): what READ of slot `DCSEL*4 + 1` returns, with no side effect. -/
def execDrdComp10 (s : State) : Answer :=
  answerByte (slotRead (undefinedSlot s.dcsel 1) s) s

/-- `DRD COMP11` (R388): what READ of slot `DCSEL*4 + 2` returns, with no side effect. -/
def execDrdComp11 (s : State) : Answer :=
  answerByte (slotRead (undefinedSlot s.dcsel 2) s) s

/-- `DRD COMP12` (R388): what READ of slot `DCSEL*4 + 3` returns, with no side effect. -/
def execDrdComp12 (s : State) : Answer :=
  answerByte (slotRead (undefinedSlot s.dcsel 3) s) s

/-- `DRD L0_CONFIG` (R388): what READ of the index returns, with no state changed. -/
def execDrdL0Config (s : State) : Answer :=
  answerByte s.layer0.config s

/-- `DRD L0_MAPBASE` (R388): what READ of the index returns, with no state changed. -/
def execDrdL0Mapbase (s : State) : Answer :=
  answerByte s.layer0.mapBase s

/-- `DRD L0_TILEBASE` (R388): what READ of the index returns, with no state changed. -/
def execDrdL0Tilebase (s : State) : Answer :=
  answerByte s.layer0.tileBase s

/-- `DRD L0_HSCROLL_L` (R388): what READ of the index returns, with no state changed. -/
def execDrdL0HscrollL (s : State) : Answer :=
  answerByte s.layer0.hscrollL s

/-- `DRD L0_HSCROLL_H` (R388): what READ of the index returns, with no state changed. -/
def execDrdL0HscrollH (s : State) : Answer :=
  answerByte s.layer0.hscrollH s

/-- `DRD L0_VSCROLL_L` (R388): what READ of the index returns, with no state changed. -/
def execDrdL0VscrollL (s : State) : Answer :=
  answerByte s.layer0.vscrollL s

/-- `DRD L0_VSCROLL_H` (R388): what READ of the index returns, with no state changed. -/
def execDrdL0VscrollH (s : State) : Answer :=
  answerByte s.layer0.vscrollH s

/-- `DRD L1_CONFIG` (R388): what READ of the index returns, with no state changed. -/
def execDrdL1Config (s : State) : Answer :=
  answerByte s.layer1.config s

/-- `DRD L1_MAPBASE` (R388): what READ of the index returns, with no state changed. -/
def execDrdL1Mapbase (s : State) : Answer :=
  answerByte s.layer1.mapBase s

/-- `DRD L1_TILEBASE` (R388): what READ of the index returns, with no state changed. -/
def execDrdL1Tilebase (s : State) : Answer :=
  answerByte s.layer1.tileBase s

/-- `DRD L1_HSCROLL_L` (R388): what READ of the index returns, with no state changed. -/
def execDrdL1HscrollL (s : State) : Answer :=
  answerByte s.layer1.hscrollL s

/-- `DRD L1_HSCROLL_H` (R388): what READ of the index returns, with no state changed. -/
def execDrdL1HscrollH (s : State) : Answer :=
  answerByte s.layer1.hscrollH s

/-- `DRD L1_VSCROLL_L` (R388): what READ of the index returns, with no state changed. -/
def execDrdL1VscrollL (s : State) : Answer :=
  answerByte s.layer1.vscrollL s

/-- `DRD L1_VSCROLL_H` (R388): what READ of the index returns, with no state changed. -/
def execDrdL1VscrollH (s : State) : Answer :=
  answerByte s.layer1.vscrollH s

/-- `DRD AUDIO_CTRL` (R388): what READ of the index returns, with no state changed. -/
def execDrdAudioCtrl (s : State) : Answer :=
  answerByte s.inputs.audioReg[0] s

/-- `DRD AUDIO_RATE` (R388): what READ of the index returns, with no state changed. -/
def execDrdAudioRate (s : State) : Answer :=
  answerByte s.inputs.audioReg[1] s

/-- `DRD AUDIO_DATA` (R388): what READ of the index returns, with no state changed. -/
def execDrdAudioData (s : State) : Answer :=
  answerByte s.inputs.audioReg[2] s

/-- `DRD SPI_DATA` (R388): what READ of the index returns, with no state changed. -/
def execDrdSpiData (s : State) : Answer :=
  answerByte s.inputs.spi[0] s

/-- `DRD SPI_CTRL` (R388): what READ of the index returns, with no state changed. -/
def execDrdSpiCtrl (s : State) : Answer :=
  answerByte s.inputs.spi[1] s

end Sys2Proof.Machine
end

