-- ==== Sys2Proof/Machine/Forward.lean ====
section
/-! DEFINITION. Forward: the meanings of the host operations on the forwarded registers, indices 0x1B
to 0x1F (spec/48_host_interfaces.md R381 to R384): writes become events, reads are external inputs. -/

namespace Sys2Proof.Machine

/-- `RD AUDIO_CTRL` (R382): `AudioRegRead(0)`, no device state changes. -/
def execRdAudioCtrl (s : State) : Answer :=
  answerByte s.inputs.audioReg[0] s

/-- `WR AUDIO_CTRL` (R381): emits `AudioRegWrite(0, v)`, no device state changes. -/
def execWrAudioCtrl (v : Byte) (s : State) : Answer :=
  answerNothing (s.emit (.audioRegWrite 0 v))

/-- `RD AUDIO_RATE` (R382): `AudioRegRead(1)`, no device state changes. -/
def execRdAudioRate (s : State) : Answer :=
  answerByte s.inputs.audioReg[1] s

/-- `WR AUDIO_RATE` (R381): emits `AudioRegWrite(1, v)`, no device state changes. -/
def execWrAudioRate (v : Byte) (s : State) : Answer :=
  answerNothing (s.emit (.audioRegWrite 1 v))

/-- `RD AUDIO_DATA` (R382): `AudioRegRead(2)`, no device state changes. -/
def execRdAudioData (s : State) : Answer :=
  answerByte s.inputs.audioReg[2] s

/-- `WR AUDIO_DATA` (R381): emits `AudioRegWrite(2, v)`, no device state changes. -/
def execWrAudioData (v : Byte) (s : State) : Answer :=
  answerNothing (s.emit (.audioRegWrite 2 v))

/-- `RD SPI_DATA` (R384): `SpiRead(0)`, no device state changes. -/
def execRdSpiData (s : State) : Answer :=
  answerByte s.inputs.spi[0] s

/-- `WR SPI_DATA` (R383): emits `SpiWrite(0, v)`, no device state changes. -/
def execWrSpiData (v : Byte) (s : State) : Answer :=
  answerNothing (s.emit (.spiWrite 0 v))

/-- `RD SPI_CTRL` (R384): `SpiRead(1)`, no device state changes. -/
def execRdSpiCtrl (s : State) : Answer :=
  answerByte s.inputs.spi[1] s

/-- `WR SPI_CTRL` (R383): emits `SpiWrite(1, v)`, no device state changes. -/
def execWrSpiCtrl (v : Byte) (s : State) : Answer :=
  answerNothing (s.emit (.spiWrite 1 v))

end Sys2Proof.Machine
end

