-- ==== Sys2Proof/Machine/Fx.lean ====
section
/-! DEFINITION. Fx: the data-port access path and the FX engine (spec/43_fx_engine.md): the address
advance with its nibble, hop and mode couplings, the data-window procedures `DataRead` and `DataWrite`,
the cache and the multiplier. -/

namespace Sys2Proof.Machine

/-! ## Address advance (R231 to R239) -/

/-- The signed step of port `p`: `STEP[INC[p]]`. -/
def portStep (p : PortId) (s : State) : Int := stepOf (s.port p).inc

/-- `NibbleStep(p, s)` (R233): in 4-bit mode, with nibble auto-increment and step 0, the nibble cursor
moves, forward for increment index 0 and backward for index 1, taking the address with it. -/
def nibbleStep (p : PortId) (s : State) : State :=
  let q := s.port p
  if s.mode4 ∧ q.nibInc ∧ stepOf q.inc = 0 then
    if q.nib then
      s.setPort p { q with addr := if q.inc.getLsbD 0 then q.addr else q.addr + 1, nib := false }
    else
      s.setPort p { q with addr := if q.inc.getLsbD 0 then q.addr - 1 else q.addr, nib := true }
  else s

/-- `HopStep(p, step, a)` (R232): on port 1 with HOP16, +4 becomes 1 or 3 and +320 becomes 1 or 319, by
the alignment of the address before the advance. -/
def hopStep (p : PortId) (step : Int) (a : VAddr) (s : State) : Int :=
  if p = .port1 ∧ s.hop16 then
    if step = 4 then (if a.extractLsb' 0 2 = s.fx.hopAlign then 1 else 3)
    else if step = 320 then (if a.extractLsb' 0 2 = s.fx.hopAlign then 1 else 319)
    else step
  else step

/-- The address of port `p` moved by `d`. -/
def movePort (p : PortId) (d : Int) (s : State) : State :=
  s.setPort p { s.port p with addr := addrPlus (s.port p).addr d }

/-- Mode 1, line draw (R235), on an access to the stepping port `p`: the x-position accumulates and
each carry into its integer part moves port 1 by port 0's step; port 1's cache is refilled when the
access is port 0's. -/
def coupleLine (p : PortId) (s : State) : State :=
  let new : Int := s.fx.xPos.toInt + s.fx.xInc.toInt
  let carries : Int := new / 65536 - fixedFloor s.fx.xPos
  let s' := s.setFx { s.fx with xPos := BitVec.ofInt 32 new }
  if carries = 0 then s'
  else
    let moved := movePort .port1 (carries * portStep .port0 s') s'
    if p = .port0 then reprime .port1 moved else moved

/-- Mode 2, polygon span (R236), on a read: a port-0 read steps both edges (and, cycling without
filling, the cache index); a read of either port derives port 1's address anew. -/
def couplePolygon (p : PortId) (s : State) : State :=
  let s' :=
    if p = .port0 then
      s.setFx
        { s.fx with
          xPos := s.fx.xPos + s.fx.xInc
          yPos := s.fx.yPos + s.fx.yInc
          cByte := if s.cacheCyc ∧ !s.cacheFill then s.fx.cByte + 1 else s.fx.cByte }
    else s
  reprime .port1
    (s'.setPort .port1 { s'.port1 with addr := addrPlus s'.port0.addr (fixedFloor s'.fx.xPos) })

/-- Mode 3, affine (R238), on a port-1 read: both positions step. -/
def coupleAffine (s : State) : State :=
  s.setFx { s.fx with xPos := s.fx.xPos + s.fx.xInc, yPos := s.fx.yPos + s.fx.yInc }

/-- `Couple(p, is_write)` (R231): nothing in mode 0 (R234), else what A1MODE selects. -/
def couple (p : PortId) (isWrite : Bool) (s : State) : State :=
  match s.a1Mode.toNat with
  | 0 => s
  | 1 => if p = s.cfg.lineStepPort then coupleLine p s else s
  | 2 => if isWrite then s else couplePolygon p s
  | _ => if p = .port1 ∧ !isWrite then coupleAffine s else s

/-- A port's own step (R231): the nibble step, then its address moved by its hop step. -/
def ownAdvance (p : PortId) (s : State) : State :=
  movePort p (hopStep p (portStep p s) (s.port p).addr s) (nibbleStep p s)

/-- `PortAdvance(p, is_write)` (R231), the state part; the address and nibble select the access uses
are the port's before it. -/
def portAdvance (p : PortId) (isWrite : Bool) (s : State) : State := couple p isWrite (ownAdvance p s)

/-- The affine tile-map lookup (R239): the texel address the two positions select; a position outside
the map resolves to tile 0 when clipping, and wraps otherwise. -/
def affineAddr (s : State) : VAddr :=
  let size := affineMapSize s.comp[10]
  let xTile := (s.fx.xPos.extractLsb' 19 8).toNat
  let yTile := (s.fx.yPos.extractLsb' 19 8).toNat
  let xIn := (s.fx.xPos.extractLsb' 16 3).toNat
  let yIn := (s.fx.yPos.extractLsb' 16 3).toNat
  let xt := if s.affClip then xTile else xTile % size
  let yt := if s.affClip then yTile else yTile % size
  let tile : Nat :=
    if size ≤ xt ∨ size ≤ yt then 0
    else (s.vram (affineBase s.comp[10] + yt * size + xt)).toNat
  if s.mode4 then BitVec.ofNat 17 (affineBase s.comp[9] + tile * 32 + yIn * 4 + xIn / 2)
  else BitVec.ofNat 17 (affineBase s.comp[9] + tile * 64 + yIn * 8 + xIn)

/-- `AffinePrefetch()` (R239): port 1's address and cache from the lookup, and in 4-bit mode its nibble
select from the low bit of the pixel's x. -/
def affinePrefetch (s : State) : State :=
  reprime .port1
    (s.setPort .port1
      { s.port1 with
        addr := affineAddr s
        nib := if s.mode4 then s.fx.xPos.getLsbD 16 else s.port1.nib })

/-! ## Cache and multiplier (R246 to R252) -/

/-- `Product()` (R251). -/
def product (s : State) : BitVec 32 := cacheProduct s.fx.cache

/-- The accumulator after one accumulation (R252): minus the product when `sub`, plus it otherwise. -/
def accumulated (sub : Bool) (s : State) : BitVec 32 :=
  if sub then s.fx.acc - product s else s.fx.acc + product s

/-- The cache byte at the current index. -/
def cacheByte (s : State) : Byte := s.fx.cache[s.fx.cByte.toNat]'s.fx.cByte.isLt

/-- The FX registers with one cache byte replaced. -/
def withCacheByte (i : BitVec 2) (b : Byte) (fx : Fx) : Fx :=
  { fx with cache := fx.cache.set i.toNat b i.isLt }

/-- `CacheFill(r)` (R246). -/
def fillCache (r : Byte) (s : State) : State :=
  let fx := s.fx
  if s.mode4 then
    if fx.cNib then
      s.setFx
        { withCacheByte fx.cByte ((cacheByte s &&& 0xF0) ||| (r &&& 0x0F)) fx with
          cNib := false, cByte := fx.cByte + 1 }
    else
      s.setFx { withCacheByte fx.cByte ((cacheByte s &&& 0x0F) ||| (r &&& 0xF0)) fx with cNib := true }
  else
    s.setFx
      { withCacheByte fx.cByte r fx with
        cByte := if s.cacheInc2 then (fx.cByte &&& 2) ||| ((fx.cByte + 1) &&& 1) else fx.cByte + 1 }

/-! ## Stores through the FX engine (R242, R249, R250) -/

/-- `FxStore(a, nib, b)` (R242): the single-byte store with nibble mode and transparency. -/
def fxStore (a : VAddr) (nib : Bool) (b : Byte) (s : State) : State :=
  if s.mode4 then
    if nib then
      if s.transp ∧ b &&& 0x0F = 0 then s
      else memWrite a ((s.readByte a &&& 0xF0) ||| (b &&& 0x0F)) s
    else
      if s.transp ∧ b &&& 0xF0 = 0 then s
      else memWrite a ((b &&& 0xF0) ||| (s.readByte a &&& 0x0F)) s
  else
    if s.transp ∧ b = 0 then s else memWrite a b s

/-- The nibble mask after transparency (R250): a zero byte (or, in 4-bit mode, a zero nibble) is
protected. Bit 0 protects the low nibble, bit 1 the high nibble. -/
def transparentMask (s : State) (b : Byte) (m : BitVec 2) : BitVec 2 :=
  if s.transp then
    if s.mode4 then
      m ||| (if b &&& 0xF0 = 0 then 2 else 0) ||| (if b &&& 0x0F = 0 then 1 else 0)
    else if b = 0 then 3 else m
  else m

/-- `CacheStore(a, b, m)` (R250): one byte of the 32-bit write under its nibble mask. -/
def cacheStore (a : VAddr) (b : Byte) (m : BitVec 2) (s : State) : State :=
  match (transparentMask s b m).toNat with
  | 0 => memWrite a b s
  | 1 => memWrite a ((s.readByte a &&& 0x0F) ||| (b &&& 0xF0)) s
  | 2 => memWrite a ((s.readByte a &&& 0xF0) ||| (b &&& 0x0F)) s
  | _ => s

/-- Byte `k` of the four a cache write stores (R249): the cycling byte, the multiplier's result, or the
cache. -/
def cacheWriteByte (k : Fin 4) (s : State) : Byte :=
  if s.cacheCyc then cacheByte s
  else if s.multEn then (accumulated s.subtract s).extractLsb' (8 * k.val) 8
  else s.fx.cache[k]

/-- Address `k` of the aligned group of four a cache write stores to (R249). -/
def cacheWriteAddr (a : VAddr) (k : Fin 4) : VAddr := (a &&& 0x1FFFC#17) + BitVec.ofNat 17 k.val

/-- One of the four stores of a cache write; the bytes stored are those of the state `src` before the
write (no store changes the cache, the accumulator or a control bit). -/
def cacheWriteOne (src : State) (a : VAddr) (v : Byte) (k : Fin 4) (s : State) : State :=
  cacheStore (cacheWriteAddr a k) (cacheWriteByte k src) (v.extractLsb' (2 * k.val) 2) s

/-- `CacheWrite(a, v)` (R249): four stores in ascending order of address, under the masks in `v`. -/
def cacheWrite (a : VAddr) (v : Byte) (s : State) : State :=
  cacheWriteOne s a v 3 (cacheWriteOne s a v 2 (cacheWriteOne s a v 1 (cacheWriteOne s a v 0 s)))

/-! ## The data-window procedures (R240, R241) -/

/-- The part of `DataRead(p)` (R240) before the cache fill: the advance, then the port's cache refilled
from the affine lookup or from its new address. -/
def primedRead (p : PortId) (s : State) : State :=
  let advanced := portAdvance p false s
  if p = .port1 ∧ s.a1Mode = 3 then affinePrefetch advanced else reprime p advanced

/-- `DataRead(p)` (R240), the state part; the byte returned is the read cache before it. -/
def dataRead (p : PortId) (s : State) : State :=
  if s.cacheFill then fillCache (s.port p).rdData (primedRead p s) else primedRead p s

/-- The store part of `DataWrite` (R241), at the address and nibble select before the advance. -/
def dataStore (a : VAddr) (nib : Bool) (v : Byte) (s : State) : State :=
  if s.cacheWr then cacheWrite a v s
  else fxStore a nib (if s.cacheCyc then cacheByte s else v) s

/-- `DataWrite(p, v)` (R241): advance, store at the address before the advance, refill the cache. -/
def dataWrite (p : PortId) (v : Byte) (s : State) : State :=
  reprime p (dataStore (s.port p).addr (s.port p).nib v (portAdvance p true s))

end Sys2Proof.Machine
end

