-- ==== Sys2Proof/Machine/FxRegs.lean ====
section
/-! DEFINITION. FxRegs: the meanings of the host operations on composer slots 8 to 27, the FX
registers (spec/42_fx_registers.md). -/

namespace Sys2Proof.Machine

/-- The X increment recomputed from its two register bytes (R208, R209). -/
def reloadXInc (s : State) : State := s.setFx { s.fx with xInc := incrOf s.comp[13] s.comp[12] }

/-- The Y increment recomputed from its two register bytes (R210, R211). -/
def reloadYInc (s : State) : State := s.setFx { s.fx with yInc := incrOf s.comp[15] s.comp[14] }

/-- The X position replaced. -/
def setXPos (p : Fixed) (s : State) : State := s.setFx { s.fx with xPos := p }

/-- The Y position replaced. -/
def setYPos (p : Fixed) (s : State) : State := s.setFx { s.fx with yPos := p }

/-- `WR FX_MULT`'s effect on the FX engine (R206): the cache indices, then accumulate with the new
SUBTRACT bit, then reset. -/
def loadMult (v : Byte) (s : State) : State :=
  let acc := if v.getLsbD 6 then accumulated (v.getLsbD 5) s else s.fx.acc
  s.setFx
    { s.fx with
      cByte := v.extractLsb' 2 2
      cNib := v.getLsbD 1
      acc := if v.getLsbD 7 then 0 else acc }

/-- `FX_CACHE[i] <- v` (R226 to R229). -/
def loadCacheByte (i : BitVec 2) (v : Byte) (s : State) : State := s.setFx (withCacheByte i v s.fx)

/-- `FX_ACC <- 0` (R224). -/
def clearAcc (s : State) : State := s.setFx { s.fx with acc := 0 }

/-- One accumulation (R225). -/
def accumulate (s : State) : State := s.setFx { s.fx with acc := accumulated s.subtract s }

/-- `RD FX_CTRL` (R201): `COMP[8]`. -/
def execRdFxCtrl (s : State) : Answer :=
  answerByte (slotRead 8 s) s

/-- `WR FX_CTRL` (R202): `COMP[8] <- v`; the new bits govern the next data access. -/
def execWrFxCtrl (v : Byte) (s : State) : Answer :=
  answerNothing (storeSlot 8 v s)

/-- `RD FX_TILEBASE` (R203): a write-only slot reads version byte 1. -/
def execRdFxTilebase (s : State) : Answer :=
  answerByte (slotRead 9 s) s

/-- `WR FX_TILEBASE` (R204): `COMP[9] <- v`. -/
def execWrFxTilebase (v : Byte) (s : State) : Answer :=
  answerNothing (storeSlot 9 v s)

/-- `RD FX_MAPBASE` (R203): a write-only slot reads version byte 2. -/
def execRdFxMapbase (s : State) : Answer :=
  answerByte (slotRead 10 s) s

/-- `WR FX_MAPBASE` (R205): `COMP[10] <- v`. -/
def execWrFxMapbase (v : Byte) (s : State) : Answer :=
  answerNothing (storeSlot 10 v s)

/-- `RD FX_MULT` (R203): a write-only slot reads version byte 3. -/
def execRdFxMult (s : State) : Answer :=
  answerByte (slotRead 11 s) s

/-- `WR FX_MULT` (R206): cache indices, accumulate, reset. -/
def execWrFxMult (v : Byte) (s : State) : Answer :=
  answerNothing (loadMult v (storeSlot 11 v s))

/-- `RD FX_X_INCR_L` (R203): a write-only slot reads version byte 0. -/
def execRdFxXIncrL (s : State) : Answer :=
  answerByte (slotRead 12 s) s

/-- `WR FX_X_INCR_L` (R208): `FX_XINC <- IncrOf(COMP[13], v)`. -/
def execWrFxXIncrL (v : Byte) (s : State) : Answer :=
  answerNothing (reloadXInc (storeSlot 12 v s))

/-- `RD FX_X_INCR_H` (R203): a write-only slot reads version byte 1. -/
def execRdFxXIncrH (s : State) : Answer :=
  answerByte (slotRead 13 s) s

/-- `WR FX_X_INCR_H` (R209): `FX_XINC <- IncrOf(v, COMP[12])`. -/
def execWrFxXIncrH (v : Byte) (s : State) : Answer :=
  answerNothing (reloadXInc (storeSlot 13 v s))

/-- `RD FX_Y_INCR_L` (R203): a write-only slot reads version byte 2. -/
def execRdFxYIncrL (s : State) : Answer :=
  answerByte (slotRead 14 s) s

/-- `WR FX_Y_INCR_L` (R210): `FX_YINC <- IncrOf(COMP[15], v)`. -/
def execWrFxYIncrL (v : Byte) (s : State) : Answer :=
  answerNothing (reloadYInc (storeSlot 14 v s))

/-- `RD FX_Y_INCR_H` (R203): a write-only slot reads version byte 3. -/
def execRdFxYIncrH (s : State) : Answer :=
  answerByte (slotRead 15 s) s

/-- `WR FX_Y_INCR_H` (R211): `FX_YINC <- IncrOf(v, COMP[14])`. -/
def execWrFxYIncrH (v : Byte) (s : State) : Answer :=
  answerNothing (reloadYInc (storeSlot 15 v s))

/-- `RD FX_X_POS_L` (R203): a write-only slot reads version byte 0. -/
def execRdFxXPosL (s : State) : Answer :=
  answerByte (slotRead 16 s) s

/-- `WR FX_X_POS_L` (R214): X integer bits 7:0. -/
def execWrFxXPosL (v : Byte) (s : State) : Answer :=
  answerNothing (setXPos (withPosL s.fx.xPos v) (storeSlot 16 v s))

/-- `RD FX_X_POS_H` (R203): a write-only slot reads version byte 1. -/
def execRdFxXPosH (s : State) : Answer :=
  answerByte (slotRead 17 s) s

/-- `WR FX_X_POS_H` (R215): X integer bits 10:8 and fraction bit 7. -/
def execWrFxXPosH (v : Byte) (s : State) : Answer :=
  answerNothing (setXPos (withPosH s.fx.xPos v) (storeSlot 17 v s))

/-- `RD FX_Y_POS_L` (R203): a write-only slot reads version byte 2. -/
def execRdFxYPosL (s : State) : Answer :=
  answerByte (slotRead 18 s) s

/-- `WR FX_Y_POS_L` (R216): Y integer bits 7:0. -/
def execWrFxYPosL (v : Byte) (s : State) : Answer :=
  answerNothing (setYPos (withPosL s.fx.yPos v) (storeSlot 18 v s))

/-- `RD FX_Y_POS_H` (R203): a write-only slot reads version byte 3. -/
def execRdFxYPosH (s : State) : Answer :=
  answerByte (slotRead 19 s) s

/-- `WR FX_Y_POS_H` (R217): Y integer bits 10:8 and fraction bit 7. -/
def execWrFxYPosH (v : Byte) (s : State) : Answer :=
  answerNothing (setYPos (withPosH s.fx.yPos v) (storeSlot 19 v s))

/-- `RD FX_X_POS_S` (R203): a write-only slot reads version byte 0. -/
def execRdFxXPosS (s : State) : Answer :=
  answerByte (slotRead 20 s) s

/-- `WR FX_X_POS_S` (R218): X fraction bits 15:8. -/
def execWrFxXPosS (v : Byte) (s : State) : Answer :=
  answerNothing (setXPos (withPosS s.fx.xPos v) (storeSlot 20 v s))

/-- `RD FX_Y_POS_S` (R203): a write-only slot reads version byte 1. -/
def execRdFxYPosS (s : State) : Answer :=
  answerByte (slotRead 21 s) s

/-- `WR FX_Y_POS_S` (R219): Y fraction bits 15:8. -/
def execWrFxYPosS (v : Byte) (s : State) : Answer :=
  answerNothing (setYPos (withPosS s.fx.yPos v) (storeSlot 21 v s))

/-- `RD FX_POLY_FILL_L` (R222): low part of the span length. -/
def execRdFxPolyFillL (s : State) : Answer :=
  answerByte (slotRead 22 s) s

/-- `WR FX_POLY_FILL_L` (R220): latched, no other effect. -/
def execWrFxPolyFillL (v : Byte) (s : State) : Answer :=
  answerNothing (storeSlot 22 v s)

/-- `RD FX_POLY_FILL_H` (R223): high part of the span length. -/
def execRdFxPolyFillH (s : State) : Answer :=
  answerByte (slotRead 23 s) s

/-- `WR FX_POLY_FILL_H` (R221): latched, no other effect. -/
def execWrFxPolyFillH (v : Byte) (s : State) : Answer :=
  answerNothing (storeSlot 23 v s)

/-- `RD FX_ACCUM_RESET` (R224): `FX_ACC <- 0`; returns version byte 0. -/
def execRdFxAccumReset (s : State) : Answer :=
  answerByte (slotRead 24 s) (clearAcc s)

/-- `WR FX_CACHE_L` (R226): `FX_CACHE[0] <- v`. -/
def execWrFxCacheL (v : Byte) (s : State) : Answer :=
  answerNothing (loadCacheByte 0 v (storeSlot 24 v s))

/-- `RD FX_ACCUM` (R225): accumulates; returns version byte 1. -/
def execRdFxAccum (s : State) : Answer :=
  answerByte (slotRead 25 s) (accumulate s)

/-- `WR FX_CACHE_M` (R227): `FX_CACHE[1] <- v`. -/
def execWrFxCacheM (v : Byte) (s : State) : Answer :=
  answerNothing (loadCacheByte 1 v (storeSlot 25 v s))

/-- `RD FX_CACHE_H` (R203): a write-only slot reads version byte 2. -/
def execRdFxCacheH (s : State) : Answer :=
  answerByte (slotRead 26 s) s

/-- `WR FX_CACHE_H` (R228): `FX_CACHE[2] <- v`. -/
def execWrFxCacheH (v : Byte) (s : State) : Answer :=
  answerNothing (loadCacheByte 2 v (storeSlot 26 v s))

/-- `RD FX_CACHE_U` (R203): a write-only slot reads version byte 3. -/
def execRdFxCacheU (s : State) : Answer :=
  answerByte (slotRead 27 s) s

/-- `WR FX_CACHE_U` (R229): `FX_CACHE[3] <- v`. -/
def execWrFxCacheU (v : Byte) (s : State) : Answer :=
  answerNothing (loadCacheByte 3 v (storeSlot 27 v s))

end Sys2Proof.Machine
end

