-- ==== Sys2Proof/Machine/LayerRender.lean ====
section
/-! DEFINITION. LayerRender: the layer renderer (spec/44_layers.md part 1) as a function from logical
coordinates to a colour index, 0 transparent. It reads one layer's registers and VRAM and writes no
state (R270); every pixel fetches its own map entry (R271). -/

namespace Sys2Proof.Machine

/-- The three layer modes (R273). -/
inductive LayerMode where
  | bitmap
  | text
  | tile
  deriving DecidableEq, Repr

/-- Mode selection (R273): the bitmap flag first, then depth code 0 is text. -/
def layerMode (r : LayerRegs) : LayerMode :=
  if LayerRegs.bitmap r then .bitmap else if LayerRegs.depth r = 0 then .text else .tile

/-- The scrolled x in text and tile modes (R274). -/
def scrolledX (r : LayerRegs) (sx : Nat) : Nat := (sx + LayerRegs.hscroll r) % LayerRegs.layerW r

/-- The scrolled y in text and tile modes (R274). -/
def scrolledY (r : LayerRegs) (sy : Nat) : Nat := (sy + LayerRegs.vscroll r) % LayerRegs.layerH r

/-- The x in bitmap mode (R274), scrolled or not by the `BITMAP_SCROLL` parameter. -/
def bitmapX (scroll : BitmapScroll) (r : LayerRegs) (sx : Nat) : Nat :=
  match scroll with
  | .honored => (sx + LayerRegs.hscroll r) % LayerRegs.bitmapW r
  | .ignored => sx % LayerRegs.bitmapW r

/-- The y in bitmap mode (R274). -/
def bitmapY (scroll : BitmapScroll) (r : LayerRegs) (sy : Nat) : Nat :=
  match scroll with
  | .honored => (sy + LayerRegs.vscroll r) % LayerRegs.bitmapH r
  | .ignored => sy % LayerRegs.bitmapH r

/-- The address of the two-byte map entry at `(ex, ey)` (R275): row-major, 2 bytes per cell. -/
def mapEntryAddr (r : LayerRegs) (ex ey : Nat) : Nat :=
  LayerRegs.mapAddr r +
    2 * (((ey >>> LayerRegs.tileHLog2 r) <<< LayerRegs.mapWLog2 r) + (ex >>> LayerRegs.tileWLog2 r))

/-- Text mode (R276): 1 bit per pixel, foreground or background by the glyph bit. -/
def textPixel (s : State) (r : LayerRegs) (ex ey : Nat) : Byte :=
  let ma := mapEntryAddr r ex ey
  let glyph := (s.vram ma).toNat
  let attr := s.vram (ma + 1)
  let xx := ex % 2 ^ LayerRegs.tileWLog2 r
  let yy := ey % 2 ^ LayerRegs.tileHLog2 r
  let rowBytes := 1 <<< (LayerRegs.tileWLog2 r - 3)
  let ga := LayerRegs.tileAddr r + glyph * (rowBytes <<< LayerRegs.tileHLog2 r) + yy * rowBytes + xx / 8
  if (s.vram ga).getLsbD (7 - xx % 8) then
    (if LayerRegs.t256c r then attr else (attr.extractLsb' 0 4).setWidth 8)
  else
    (if LayerRegs.t256c r then 0 else (attr.extractLsb' 4 4).setWidth 8)

/-- A coordinate within a tile of `2 ^ log2` pixels, mirrored when flipped (R277). -/
def flipped (flip : Bool) (log2 x : Nat) : Nat := if flip then x ^^^ (2 ^ log2 - 1) else x

/-- Tile mode (R277): flips, the packed pixel, and the entry's palette offset. -/
def tilePixel (s : State) (r : LayerRegs) (ex ey : Nat) : Byte :=
  let ma := mapEntryAddr r ex ey
  let b0 := s.vram ma
  let b1 := s.vram (ma + 1)
  let tile := (b1.extractLsb' 0 2 ++ b0).toNat
  let xx := flipped (b1.getLsbD 2) (LayerRegs.tileWLog2 r) (ex % 2 ^ LayerRegs.tileWLog2 r)
  let yy := flipped (b1.getLsbD 3) (LayerRegs.tileHLog2 r) (ey % 2 ^ LayerRegs.tileHLog2 r)
  let rowBytes := (LayerRegs.bpp r <<< LayerRegs.tileWLog2 r) / 8
  let tileBytes := rowBytes <<< LayerRegs.tileHLog2 r
  let da := LayerRegs.tileAddr r + tile * tileBytes + yy * rowBytes + xx * LayerRegs.bpp r / 8
  palOffset (extractPixel (LayerRegs.bpp r) (s.vram da) xx) (b1.extractLsb' 4 4)

/-- Bitmap mode (R278): one tile of 320 or 640 by 480 pixels, with the layer's palette offset. -/
def bitmapPixel (s : State) (r : LayerRegs) (ex ey : Nat) : Byte :=
  let da := LayerRegs.tileAddr r + (ey * LayerRegs.bitmapW r + ex) * LayerRegs.bpp r / 8
  palOffset (extractPixel (LayerRegs.bpp r) (s.vram da) ex) (LayerRegs.bitmapPalOffset r)

/-- `LayerPixel(l, sx, sy)` (R281) of the layer with registers `r`. -/
def layerPixel (s : State) (r : LayerRegs) (sx sy : Nat) : Byte :=
  match layerMode r with
  | .bitmap => bitmapPixel s r (bitmapX s.cfg.bitmapScroll r sx) (bitmapY s.cfg.bitmapScroll r sy)
  | .text => textPixel s r (scrolledX r sx) (scrolledY r sy)
  | .tile => tilePixel s r (scrolledX r sx) (scrolledY r sy)

end Sys2Proof.Machine
end

