-- ==== Sys2Proof/Machine/SpriteRender.lean ====
section
/-! DEFINITION. SpriteRender: the sprite renderer `SpriteLine(sy)` (spec/45_sprites.md): 128 descriptors
in index order under a work budget, a z-ordered row of pixels, and the collision masks. -/

namespace Sys2Proof.Machine

/-- One output pixel of the sprite row: colour (`scol`, 0 none), z-depth (`sz`) and the collision masks
already drawn there (`smask`) (R310). -/
structure SpritePixel where
  col : Byte := 0
  z : BitVec 2 := 0
  mask : BitVec 4 := 0
  deriving DecidableEq, Repr

/-- The sprite renderer's work in progress on one line. -/
structure SpriteWork where
  /-- Units left of the line's budget (R313). -/
  budget : Int
  /-- The frame's collision bits so far, `COLL_ACC` (R315). -/
  coll : BitVec 4
  /-- The 640 output pixels. -/
  row : List SpritePixel
  /-- The budget has run out: the line has ended (R313). -/
  stopped : Bool
  deriving DecidableEq, Repr

/-- What one line's rendering reads besides the descriptors. -/
structure LineView where
  /-- The logical line `sy`. -/
  sy : Nat
  /-- HSCALE. -/
  hscale : Byte
  /-- HSTART. -/
  hstart : Nat
  /-- HSTOP. -/
  hstop : Nat
  deriving DecidableEq, Repr

/-- `Charge(k)` (R313): the units are taken, and the line ends unless some budget is left. -/
def charge (k : Nat) (w : SpriteWork) : SpriteWork :=
  { w with budget := w.budget - k, stopped := decide (w.budget - k ≤ 0) }

/-- The unpacked row of `w` pixels at `row` (R314): one byte a pixel, or the high nibble first. -/
def unpackRow (vram : Nat → Byte) (sp : Sprite) (row : Nat) : List Byte :=
  (List.range sp.w).map fun i =>
    if sp.mode8 then vram (row + i)
    else if i % 2 = 0 then ((vram (row + i / 2)).extractLsb' 4 4).setWidth 8
    else ((vram (row + i / 2)).extractLsb' 0 4).setWidth 8

/-- The address of the sprite's pixel row shown on logical line `sy` (R314), flipped vertically. -/
def spriteRowAddr (sp : Sprite) (sy : Nat) : Nat :=
  let r := ((sy : Int) - sp.y).toNat
  let r := if sp.vflip then sp.h - 1 - r else r
  sp.data + r * (if sp.mode8 then sp.w else sp.w / 2)

/-- `DrawSpritePixel(ox, c, n)` (R315): colour 0 draws nothing; any other colour takes part in
collisions and takes the pixel if its z-depth is strictly higher. -/
def drawSpritePixel (sp : Sprite) (ox : Nat) (c : Byte) (w : SpriteWork) : SpriteWork :=
  if c = 0 then w
  else
    let old := w.row.getD ox {}
    let claims := old.z < sp.z
    { w with
      coll := w.coll ||| (old.mask &&& sp.mask)
      row := w.row.set ox
        { col := if claims then palOffset c sp.palOff else old.col
          z := if claims then sp.z else old.z
          mask := old.mask ||| sp.mask } }

/-- The walk of `RenderSpriteRow` (R314) over output positions, with the group of four source pixels
fetched last: four units on entering a group, one unit a pixel. -/
def walkRow (view : LineView) (sp : Sprite) (u : List Byte) : List Nat → Option Nat → SpriteWork → SpriteWork
  | [], _, w => w
  | ox :: rest, lastGroup, w =>
    let lx : Int := scaled view.hscale (ox - view.hstart)
    if lx < sp.x ∨ sp.x + sp.w ≤ lx then walkRow view sp u rest lastGroup w
    else
      let i := (lx - sp.x).toNat
      let fetched := if lastGroup = some (i / 4) then w else charge 4 w
      if fetched.stopped then fetched
      else
        let paid := charge 1 fetched
        if paid.stopped then paid
        else
          walkRow view sp u rest (some (i / 4))
            (drawSpritePixel sp ox (u.getD (if sp.hflip then sp.w - 1 - i else i) 0) paid)

/-- The output positions walked (R314): the active area's columns that are on the screen. -/
def walkedColumns (view : LineView) : List Nat :=
  List.range' view.hstart (min view.hstop screenW - view.hstart)

/-- `RenderSpriteRow(n, sy)` (R314). -/
def renderSpriteRow (vram : Nat → Byte) (view : LineView) (sp : Sprite) (w : SpriteWork) : SpriteWork :=
  walkRow view sp (unpackRow vram sp (spriteRowAddr sp view.sy)) (walkedColumns view) none w

/-- The sprite is hidden, or its vertical extent excludes the line (R312). -/
def spriteSkipped (view : LineView) (sp : Sprite) : Bool :=
  sp.z = 0 || decide ((view.sy : Int) < sp.y) || decide (sp.y + sp.h ≤ (view.sy : Int))

/-- The main loop (R312) over the remaining descriptors: one unit a descriptor examined. -/
def spriteLoop (vram : Nat → Byte) (view : LineView) : List Sprite → SpriteWork → SpriteWork
  | [], w => w
  | sp :: rest, w =>
    let examined := charge 1 w
    if examined.stopped then examined
    else if spriteSkipped view sp then spriteLoop vram view rest examined
    else
      let drawn := renderSpriteRow vram view sp examined
      if drawn.stopped then drawn else spriteLoop vram view rest drawn

/-- The geometry of the 128 descriptors (R311). -/
def spriteTable (s : State) : List Sprite :=
  (List.range 128).map fun n => spriteOf fun k => s.vram (sprBase + 8 * n + k)

/-- The work at the start of a line (R310, R312): empty row, full budget. -/
def spriteStart (budget : Nat) (coll : BitVec 4) : SpriteWork :=
  { budget := budget, coll := coll, row := List.replicate screenW {}, stopped := false }

/-- The horizontal view of a line at this moment. -/
def lineView (s : State) (sy : Nat) : LineView :=
  { sy := sy, hscale := s.comp[1], hstart := horizontalEdge s.comp[4], hstop := horizontalEdge s.comp[5] }

/-- `SpriteLine(sy)` (R310): with SPR_EN clear the renderer does not run. -/
def spriteLine (s : State) (sy : Nat) : SpriteWork :=
  let start := spriteStart s.cfg.spriteLineBudget s.collAcc
  if s.comp[0].getLsbD 6 then spriteLoop s.vram (lineView s sy) (spriteTable s) start else start

end Sys2Proof.Machine
end

