-- ==== Sys2Proof/Machine/Compositor.lean ====
section
/-! DEFINITION. Compositor: the priority merge, scaling, border, palette lookup and framebuffer write of
one output line (spec/46_compositor_palette.md), and the skip-frame form of it (spec/48_host_interfaces.md
R391). -/

namespace Sys2Proof.Machine

/-- `Merge(z, s, c0, c1)` (R337): back to front z-1 sprites, layer 0, z-2 sprites, layer 1, z-3 sprites. -/
def merge (z : BitVec 2) (spr c0 c1 : Byte) : Byte :=
  match z.toNat with
  | 3 => if spr ≠ 0 then spr else if c1 ≠ 0 then c1 else c0
  | 2 => if c1 ≠ 0 then c1 else if spr ≠ 0 then spr else c0
  | 1 => if c1 ≠ 0 then c1 else if c0 ≠ 0 then c0 else spr
  | _ => if c1 ≠ 0 then c1 else c0

/-- The 12-bit palette entry `i` (spec/10_state.md R48): little-endian, bits 15:12 ignored. -/
def paletteEntry (s : State) (i : Byte) : BitVec 12 :=
  (s.vram (palBase + 2 * i.toNat + 1)).extractLsb' 0 4 ++ s.vram (palBase + 2 * i.toNat)

/-- CHROMA_DIS with the NTSC raster selected: the palette is greyed (R340). -/
def State.greyed (s : State) : Bool := s.comp[0].getLsbD 2 && s.comp[0].getLsbD 1

/-- `PaletteRGB(i)` (R340). -/
def paletteRgb (s : State) (i : Byte) : Rgb :=
  expandRgb (if s.greyed then greyOf s.cfg.grey (paletteEntry s i) else paletteEntry s i)

/-- Output line `y` lies in the active area's vertical range (R335). -/
def inActiveRows (s : State) (y : Nat) : Bool :=
  decide (verticalEdge s.comp[6] ≤ y) && decide (y < verticalEdge s.comp[7])

/-- Output column `x` lies in the active area's horizontal range (R335). -/
def inActiveColumns (s : State) (x : Nat) : Bool :=
  decide (horizontalEdge s.comp[4] ≤ x) && decide (x < horizontalEdge s.comp[5])

/-- The logical x of an output column of the active area (R333). -/
def logicalX (s : State) (x : Nat) : Nat := scaled s.comp[1] (x - horizontalEdge s.comp[4])

/-- The logical line of an output line of the active area (R334). -/
def logicalY (s : State) (y : Nat) : Nat := scaled s.comp[2] (y - verticalEdge s.comp[6])

/-- Layer 0's colour at a logical position, 0 when the layer is disabled (R270, R332). -/
def layer0Colour (s : State) (lx sy : Nat) : Byte :=
  if s.comp[0].getLsbD 4 then layerPixel s s.layer0 lx sy else 0

/-- Layer 1's colour at a logical position, 0 when the layer is disabled (R270, R332). -/
def layer1Colour (s : State) (lx sy : Nat) : Byte :=
  if s.comp[0].getLsbD 5 then layerPixel s s.layer1 lx sy else 0

/-- The colour index of output pixel `x` on a line of the active rows, given the sprite row (R330). -/
def activeIndex (s : State) (sy : Nat) (row : List SpritePixel) (x : Nat) : Byte :=
  if inActiveColumns s x then
    let sp := row.getD x {}
    merge sp.z sp.col (layer0Colour s (logicalX s x) sy) (layer1Colour s (logicalX s x) sy)
  else s.comp[3]

/-- The bytes of a line whose 640 pixels have the given colours (R342). -/
def lineOf (colour : Nat → Rgb) : List Byte := (List.range screenW).flatMap fun x => pixelBytes (colour x)

/-- `RenderLine(y)` with `SKIP_IN` 0, for a visible line (R330, R335, R336). -/
def renderFull (y : Nat) (s : State) : State :=
  if s.outMode = 0 then
    s.putLine y (lineOf fun _ => rgbOfNumber s.cfg.disabledColor)
  else if inActiveRows s y then
    let w := spriteLine s (logicalY s y)
    (s.setCollAcc w.coll).putLine y
      (lineOf fun x => paletteRgb s (activeIndex s (logicalY s y) w.row x))
  else
    s.putLine y (lineOf fun _ => paletteRgb s s.comp[3])

/-- `RenderLine(y)` with `SKIP_IN` 1, for a visible line (R391): only the collision bookkeeping. -/
def renderSkipped (y : Nat) (s : State) : State :=
  if s.outMode ≠ 0 ∧ inActiveRows s y then s.setCollAcc (spriteLine s (logicalY s y)).coll else s

/-- `RenderLine(y)` (R330): lines from 480 on render nothing; `SKIP_IN` is sampled once. -/
def renderLine (y : Nat) (s : State) : State :=
  if screenH ≤ y then s else if s.inputs.skip then renderSkipped y s else renderFull y s

end Sys2Proof.Machine
end

