-- ==== Sys2Proof/Machine/Scan.lean ====
section
/-! DEFINITION. Scan: the scan-timing engine (spec/47_scan_timing.md): the pixel tick, the two
free-running rasters, and the ticks one STEP performs. A tick answers the state after it and whether it
executed `FrameBoundary()`. -/

namespace Sys2Proof.Machine

/-- `FrameBoundary()` if the raster concerned is active, and whether it ran. -/
def boundaryIf (active : Bool) (s : State) : State × Bool :=
  if active then (frameBoundary s, true) else (s, false)

/-- The end of VGA line `VGA_Y` (R354): render it, next line, wrap with the frame boundary, compare. -/
def endVgaLine (s : State) : State × Bool :=
  let active := !s.ntscActive
  let rendered := if active then renderLine s.scan.vgaY s else s
  let y := s.scan.vgaY + 1
  let wraps := y = 525
  let newY := if wraps then 0 else y
  let moved := rendered.setScan { rendered.scan with vgaX := 0, vgaY := newY }
  let b := if wraps then boundaryIf active moved else (moved, false)
  (if active then lineCompare newY s.irqLine b.1 else b.1, b.2)

/-- `TickVGA()` (R354). -/
def tickVga (s : State) : State × Bool :=
  if s.scan.vgaX + 1 = 800 then endVgaLine s
  else (s.setScan { s.scan with vgaX := s.scan.vgaX + 1 }, false)

/-- The vertical offset of half-line `y`'s field from the output lines (R355). -/
def fieldOffset (cfg : Config) (y : Nat) : Int :=
  if y < 525 then (y : Int) - cfg.ntscYOffLow else (y : Int) - cfg.ntscYOffHigh

/-- The render of a completed half-line `NTSC_Y` (R355): the low field shows the even output lines, the
high field the odd ones. -/
def renderHalfLine (s : State) : State :=
  let y := fieldOffset s.cfg s.scan.ntscY
  if y % 2 = 0 ∧ 0 ≤ y ∧ y < screenH then
    renderLine (if s.scan.ntscY < 525 then y.toNat else y.toNat + 1) s
  else s

/-- The compare value the NTSC raster uses in half-line `y`'s field (R355): bit 0 forced. -/
def fieldCompare (irqLine : BitVec 9) (y : Nat) : BitVec 9 :=
  if y < 525 then irqLine &&& 0x1FE#9 else irqLine ||| 1#9

/-- The end of NTSC half-line `NTSC_Y` (R355). -/
def endHalfLine (s : State) : State × Bool :=
  let active := s.ntscActive
  let rendered := if active then renderHalfLine s else s
  let y := s.scan.ntscY + 1
  let newY := if y = 1050 then 0 else y
  let newField := if y = 525 then true else if y = 1050 then false else s.scan.field
  let moved := rendered.setScan { rendered.scan with ntscX := 0, ntscY := newY, field := newField }
  let b := if y = 525 ∨ y = 1050 then boundaryIf active moved else (moved, false)
  (if active then lineCompare (fieldOffset s.cfg newY) (fieldCompare s.irqLine newY) b.1 else b.1, b.2)

/-- `TickNTSC()` (R355). -/
def tickNtsc (s : State) : State × Bool :=
  if s.scan.ntscX + 1 = s.cfg.ntscHalfW then endHalfLine s
  else (s.setScan { s.scan with ntscX := s.scan.ntscX + 1 }, false)

/-- `Tick()` (R352): the VGA raster, then the NTSC raster. -/
def tick (s : State) : State × Bool :=
  let vga := tickVga s
  let ntsc := tickNtsc vga.1
  (ntsc.1, vga.2 || ntsc.2)

/-- `n` ticks in sequence (R351), with whether any so far executed `FrameBoundary()`. -/
def ticks : Nat → State → Bool → State × Bool
  | 0, s, newFrame => (s, newFrame)
  | n + 1, s, newFrame =>
    let t := tick s
    ticks n t.1 (newFrame || t.2)

end Sys2Proof.Machine
end

