-- ==== Sys2Proof/Machine/HostCalls.lean ====
section
/-! DEFINITION. HostCalls: the meanings of the six host calls (spec/30_encoding.md R112): RESET, STEP,
IRQ?, FB, DUMP and SKIP? (spec/47_scan_timing.md R351, spec/48_host_interfaces.md R389 to R393). -/

namespace Sys2Proof.Machine

/-- The palette window's bytes (R392). -/
def paletteBytes (s : State) : List Byte := (List.range 512).map fun k => s.vram (palBase + k)

/-- The sprite window's bytes (R392). -/
def spriteBytes (s : State) : List Byte := (List.range 1024).map fun k => s.vram (sprBase + k)

/-- The composer file as dumped (R392): byte 0 with bit 7 replaced by FIELD. -/
def compBytes (s : State) : List Byte := (s.comp.set 0 (videoByte s.scan.field s.comp[0])).toList

/-- One layer's registers in order. -/
def layerBytes (r : LayerRegs) : List Byte :=
  [r.config, r.mapBase, r.tileBase, r.hscrollL, r.hscrollH, r.vscrollL, r.vscrollH]

/-- The 132,878 bytes of a dump (R392), in its fixed order. -/
def dumpBytes (s : State) : List Byte :=
  (List.range vramSize).map s.vram ++ compBytes s ++ paletteBytes s ++
    (layerBytes s.layer0 ++ layerBytes s.layer1) ++ spriteBytes s

/-- The 1,228,800 bytes of the framebuffer (R389). -/
def frameBytes (s : State) : List Byte := (List.range (screenH * lineBytes)).map s.fbByte

/-- `RESET` (R393): `Reset()`. -/
def execHostReset (s : State) : Answer :=
  answerNothing (resetDevice s)

/-- `STEP` (R351): `Tick()` n times; returns whether a tick executed `FrameBoundary()`. -/
def execHostStep (n : Nat) (s : State) : Answer :=
  let t := ticks n s false
  .next (t.1.returning (.flag t.2))

/-- `IRQ?` (R390): the level of the interrupt output (R405). -/
def execHostIrqQuery (s : State) : Answer :=
  .next (s.returning (.flag (irqOutput s)))

/-- `FB` (R389): the framebuffer's bytes in order. -/
def execHostFramebuffer (s : State) : Answer :=
  .next (s.returning (.bytes (frameBytes s)))

/-- `DUMP` (R392): the dump. -/
def execHostDump (s : State) : Answer :=
  .next (s.returning (.bytes (dumpBytes s)))

/-- `SKIP?` (R391): `SKIP_IN`. -/
def execHostSkipQuery (s : State) : Answer :=
  .next (s.returning (.flag s.inputs.skip))

end Sys2Proof.Machine
end

