-- ==== Sys2Proof/Machine/Layers.lean ====
section
/-! DEFINITION. Layers: the meanings of the host operations on the layer registers, indices 0x0D to
0x1A (spec/44_layers.md part 2): the raw byte is stored and read back. -/

namespace Sys2Proof.Machine

/-- `RD L0_CONFIG` (R282): `LREG[0][0]`. -/
def execRdL0Config (s : State) : Answer :=
  answerByte s.layer0.config s

/-- `WR L0_CONFIG` (R283): `LREG[0][0] <- v`. -/
def execWrL0Config (v : Byte) (s : State) : Answer :=
  answerNothing (s.setLayer0 { s.layer0 with config := v })

/-- `RD L0_MAPBASE` (R284): `LREG[0][1]`. -/
def execRdL0Mapbase (s : State) : Answer :=
  answerByte s.layer0.mapBase s

/-- `WR L0_MAPBASE` (R285): `LREG[0][1] <- v`. -/
def execWrL0Mapbase (v : Byte) (s : State) : Answer :=
  answerNothing (s.setLayer0 { s.layer0 with mapBase := v })

/-- `RD L0_TILEBASE` (R286): `LREG[0][2]`. -/
def execRdL0Tilebase (s : State) : Answer :=
  answerByte s.layer0.tileBase s

/-- `WR L0_TILEBASE` (R287): `LREG[0][2] <- v`. -/
def execWrL0Tilebase (v : Byte) (s : State) : Answer :=
  answerNothing (s.setLayer0 { s.layer0 with tileBase := v })

/-- `RD L0_HSCROLL_L` (R288): `LREG[0][3]`. -/
def execRdL0HscrollL (s : State) : Answer :=
  answerByte s.layer0.hscrollL s

/-- `WR L0_HSCROLL_L` (R289): `LREG[0][3] <- v`. -/
def execWrL0HscrollL (v : Byte) (s : State) : Answer :=
  answerNothing (s.setLayer0 { s.layer0 with hscrollL := v })

/-- `RD L0_HSCROLL_H` (R290): `LREG[0][4]`. -/
def execRdL0HscrollH (s : State) : Answer :=
  answerByte s.layer0.hscrollH s

/-- `WR L0_HSCROLL_H` (R291): `LREG[0][4] <- v`. -/
def execWrL0HscrollH (v : Byte) (s : State) : Answer :=
  answerNothing (s.setLayer0 { s.layer0 with hscrollH := v })

/-- `RD L0_VSCROLL_L` (R292): `LREG[0][5]`. -/
def execRdL0VscrollL (s : State) : Answer :=
  answerByte s.layer0.vscrollL s

/-- `WR L0_VSCROLL_L` (R293): `LREG[0][5] <- v`. -/
def execWrL0VscrollL (v : Byte) (s : State) : Answer :=
  answerNothing (s.setLayer0 { s.layer0 with vscrollL := v })

/-- `RD L0_VSCROLL_H` (R294): `LREG[0][6]`. -/
def execRdL0VscrollH (s : State) : Answer :=
  answerByte s.layer0.vscrollH s

/-- `WR L0_VSCROLL_H` (R295): `LREG[0][6] <- v`. -/
def execWrL0VscrollH (v : Byte) (s : State) : Answer :=
  answerNothing (s.setLayer0 { s.layer0 with vscrollH := v })

/-- `RD L1_CONFIG` (R296): `LREG[1][0]`. -/
def execRdL1Config (s : State) : Answer :=
  answerByte s.layer1.config s

/-- `WR L1_CONFIG` (R297): `LREG[1][0] <- v`. -/
def execWrL1Config (v : Byte) (s : State) : Answer :=
  answerNothing (s.setLayer1 { s.layer1 with config := v })

/-- `RD L1_MAPBASE` (R298): `LREG[1][1]`. -/
def execRdL1Mapbase (s : State) : Answer :=
  answerByte s.layer1.mapBase s

/-- `WR L1_MAPBASE` (R299): `LREG[1][1] <- v`. -/
def execWrL1Mapbase (v : Byte) (s : State) : Answer :=
  answerNothing (s.setLayer1 { s.layer1 with mapBase := v })

/-- `RD L1_TILEBASE` (R300): `LREG[1][2]`. -/
def execRdL1Tilebase (s : State) : Answer :=
  answerByte s.layer1.tileBase s

/-- `WR L1_TILEBASE` (R301): `LREG[1][2] <- v`. -/
def execWrL1Tilebase (v : Byte) (s : State) : Answer :=
  answerNothing (s.setLayer1 { s.layer1 with tileBase := v })

/-- `RD L1_HSCROLL_L` (R302): `LREG[1][3]`. -/
def execRdL1HscrollL (s : State) : Answer :=
  answerByte s.layer1.hscrollL s

/-- `WR L1_HSCROLL_L` (R303): `LREG[1][3] <- v`. -/
def execWrL1HscrollL (v : Byte) (s : State) : Answer :=
  answerNothing (s.setLayer1 { s.layer1 with hscrollL := v })

/-- `RD L1_HSCROLL_H` (R304): `LREG[1][4]`. -/
def execRdL1HscrollH (s : State) : Answer :=
  answerByte s.layer1.hscrollH s

/-- `WR L1_HSCROLL_H` (R305): `LREG[1][4] <- v`. -/
def execWrL1HscrollH (v : Byte) (s : State) : Answer :=
  answerNothing (s.setLayer1 { s.layer1 with hscrollH := v })

/-- `RD L1_VSCROLL_L` (R306): `LREG[1][5]`. -/
def execRdL1VscrollL (s : State) : Answer :=
  answerByte s.layer1.vscrollL s

/-- `WR L1_VSCROLL_L` (R307): `LREG[1][5] <- v`. -/
def execWrL1VscrollL (v : Byte) (s : State) : Answer :=
  answerNothing (s.setLayer1 { s.layer1 with vscrollL := v })

/-- `RD L1_VSCROLL_H` (R308): `LREG[1][6]`. -/
def execRdL1VscrollH (s : State) : Answer :=
  answerByte s.layer1.vscrollH s

/-- `WR L1_VSCROLL_H` (R309): `LREG[1][6] <- v`. -/
def execWrL1VscrollH (v : Byte) (s : State) : Answer :=
  answerNothing (s.setLayer1 { s.layer1 with vscrollH := v })

end Sys2Proof.Machine
end

