-- ==== Sys2Proof/Machine/Ports.lean ====
section
/-! DEFINITION. Ports: the meanings of the host operations on register indices 0 to 8
(spec/40_ports_and_control.md): the address ports, the data windows, CTRL and the interrupt registers. -/

namespace Sys2Proof.Machine

/-- `WR ADDR_L`'s effect before the refill (R141): the low address byte, and the hop alignment on port 1
while HOP16 is set. -/
def loadAddrL (v : Byte) (s : State) : State :=
  let p := s.addrSel
  let s' := s.setPort p { s.port p with addr := withAddrL (s.port p).addr v }
  if p = .port1 ∧ s.hop16 then s'.setFx { s'.fx with hopAlign := v.extractLsb' 0 2 } else s'

/-- `WR ADDR_M`'s effect before the refill (R143). -/
def loadAddrM (v : Byte) (s : State) : State :=
  let p := s.addrSel
  s.setPort p { s.port p with addr := withAddrM (s.port p).addr v }

/-- `WR ADDR_H`'s effect before the refill (R145). -/
def loadAddrH (v : Byte) (s : State) : State :=
  let p := s.addrSel
  s.setPort p
    { s.port p with
      addr := withAddrH (s.port p).addr v
      nib := v.getLsbD 1
      nibInc := v.getLsbD 2
      inc := v.extractLsb' 3 5 }

/-- `DCSEL <- v[6:1]`, `ADDRSEL <- v[0]` (R151). -/
def selectBank (v : Byte) (s : State) : State :=
  s.setCtrl (v.extractLsb' 1 6) (portOfBit (v.getLsbD 0))

/-- `IRQLINE[8] <- v[7]`, `IEN <- v[3:0]` (R153); bits 6:4 are ignored. -/
def loadIen (v : Byte) (s : State) : State :=
  (s.setIrqLine (v.extractLsb' 7 1 ++ s.irqLine.extractLsb' 0 8)).setIen (v.extractLsb' 0 4)

/-- `RD ADDR_L` (R140): the selected port's `ADDR[7:0]`. -/
def execRdAddrL (s : State) : Answer :=
  answerByte ((s.port s.addrSel).addr.extractLsb' 0 8) s

/-- `WR ADDR_L` (R141): low address byte, hop alignment, cache refilled. -/
def execWrAddrL (v : Byte) (s : State) : Answer :=
  answerNothing (reprime s.addrSel (loadAddrL v s))

/-- `RD ADDR_M` (R142): the selected port's `ADDR[15:8]`. -/
def execRdAddrM (s : State) : Answer :=
  answerByte ((s.port s.addrSel).addr.extractLsb' 8 8) s

/-- `WR ADDR_M` (R143): middle address byte, cache refilled. -/
def execWrAddrM (v : Byte) (s : State) : Answer :=
  answerNothing (reprime s.addrSel (loadAddrM v s))

/-- `RD ADDR_H` (R144): `{INC, NIBINC, NIB, ADDR[16]}` of the selected port. -/
def execRdAddrH (s : State) : Answer :=
  answerByte (addrHByte (s.port s.addrSel)) s

/-- `WR ADDR_H` (R145): address bit 16, nibble bits and increment index, cache refilled. -/
def execWrAddrH (v : Byte) (s : State) : Answer :=
  answerNothing (reprime s.addrSel (loadAddrH v s))

/-- `RD DATA0` (R146): `DataRead(0)`: the byte cached before the read. -/
def execRdData0 (s : State) : Answer :=
  answerByte s.port0.rdData (dataRead .port0 s)

/-- `WR DATA0` (R148): `DataWrite(0, v)`. -/
def execWrData0 (v : Byte) (s : State) : Answer :=
  answerNothing (dataWrite .port0 v s)

/-- `RD DATA1` (R147): `DataRead(1)`: the byte cached before the read. -/
def execRdData1 (s : State) : Answer :=
  answerByte s.port1.rdData (dataRead .port1 s)

/-- `WR DATA1` (R149): `DataWrite(1, v)`. -/
def execWrData1 (v : Byte) (s : State) : Answer :=
  answerNothing (dataWrite .port1 v s)

/-- `RD CTRL` (R150): `(DCSEL << 1) | ADDRSEL`. -/
def execRdCtrl (s : State) : Answer :=
  answerByte (ctrlByte s.dcsel s.addrSel) s

/-- `WR CTRL` (R151): reset if bit 7 is set, then DCSEL and ADDRSEL (R432). -/
def execWrCtrl (v : Byte) (s : State) : Answer :=
  answerNothing (selectBank v (if v.getLsbD 7 then resetDevice s else s))

/-- `RD IEN` (R152): `{IRQLINE[8], SCANLINE[8], 00, IEN}`. -/
def execRdIen (s : State) : Answer :=
  answerByte (ienByte s) s

/-- `WR IEN` (R153): `IRQLINE[8]` and the enables. -/
def execWrIen (v : Byte) (s : State) : Answer :=
  answerNothing (loadIen v s)

/-- `RD ISR` (R158): `{ISR_COLL, AFLOW, SPRCOL, LINE, VSYNC}`; reading clears nothing. -/
def execRdIsr (s : State) : Answer :=
  answerByte (isrByte s) s

/-- `WR ISR` (R159): write-one-to-clear. -/
def execWrIsr (v : Byte) (s : State) : Answer :=
  answerNothing (acknowledge v s)

/-- `RD SCANLINE_L` (R160): `SCANLINE[7:0]`. -/
def execRdScanlineL (s : State) : Answer :=
  answerByte ((scanline s).extractLsb' 0 8) s

/-- `WR IRQLINE_L` (R161): `IRQLINE[7:0]`. -/
def execWrIrqlineL (v : Byte) (s : State) : Answer :=
  answerNothing (s.setIrqLine (s.irqLine.extractLsb' 8 1 ++ v))

end Sys2Proof.Machine
end

