-- ==== Sys2Proof/Machine/Dispatch.lean ====
section
/-! DEFINITION. Dispatch: one arm per host operation, each one direct call of its meaning. -/

namespace Sys2Proof.Machine

def exec (i : Instr) (s : State) : Host.Outcome State Fault Refusal :=
  match i with
  | .rdAddrL => Sys2Proof.Machine.execRdAddrL s
  | .wrAddrL v => Sys2Proof.Machine.execWrAddrL v s
  | .rdAddrM => Sys2Proof.Machine.execRdAddrM s
  | .wrAddrM v => Sys2Proof.Machine.execWrAddrM v s
  | .rdAddrH => Sys2Proof.Machine.execRdAddrH s
  | .wrAddrH v => Sys2Proof.Machine.execWrAddrH v s
  | .rdData0 => Sys2Proof.Machine.execRdData0 s
  | .wrData0 v => Sys2Proof.Machine.execWrData0 v s
  | .rdData1 => Sys2Proof.Machine.execRdData1 s
  | .wrData1 v => Sys2Proof.Machine.execWrData1 v s
  | .rdCtrl => Sys2Proof.Machine.execRdCtrl s
  | .wrCtrl v => Sys2Proof.Machine.execWrCtrl v s
  | .rdIen => Sys2Proof.Machine.execRdIen s
  | .wrIen v => Sys2Proof.Machine.execWrIen v s
  | .rdIsr => Sys2Proof.Machine.execRdIsr s
  | .wrIsr v => Sys2Proof.Machine.execWrIsr v s
  | .rdScanlineL => Sys2Proof.Machine.execRdScanlineL s
  | .wrIrqlineL v => Sys2Proof.Machine.execWrIrqlineL v s
  | .rdDcVideo => Sys2Proof.Machine.execRdDcVideo s
  | .wrDcVideo v => Sys2Proof.Machine.execWrDcVideo v s
  | .rdDcHscale => Sys2Proof.Machine.execRdDcHscale s
  | .wrDcHscale v => Sys2Proof.Machine.execWrDcHscale v s
  | .rdDcVscale => Sys2Proof.Machine.execRdDcVscale s
  | .wrDcVscale v => Sys2Proof.Machine.execWrDcVscale v s
  | .rdDcBorder => Sys2Proof.Machine.execRdDcBorder s
  | .wrDcBorder v => Sys2Proof.Machine.execWrDcBorder v s
  | .rdDcHstart => Sys2Proof.Machine.execRdDcHstart s
  | .wrDcHstart v => Sys2Proof.Machine.execWrDcHstart v s
  | .rdDcHstop => Sys2Proof.Machine.execRdDcHstop s
  | .wrDcHstop v => Sys2Proof.Machine.execWrDcHstop v s
  | .rdDcVstart => Sys2Proof.Machine.execRdDcVstart s
  | .wrDcVstart v => Sys2Proof.Machine.execWrDcVstart v s
  | .rdDcVstop => Sys2Proof.Machine.execRdDcVstop s
  | .wrDcVstop v => Sys2Proof.Machine.execWrDcVstop v s
  | .rdFxCtrl => Sys2Proof.Machine.execRdFxCtrl s
  | .wrFxCtrl v => Sys2Proof.Machine.execWrFxCtrl v s
  | .rdFxTilebase => Sys2Proof.Machine.execRdFxTilebase s
  | .wrFxTilebase v => Sys2Proof.Machine.execWrFxTilebase v s
  | .rdFxMapbase => Sys2Proof.Machine.execRdFxMapbase s
  | .wrFxMapbase v => Sys2Proof.Machine.execWrFxMapbase v s
  | .rdFxMult => Sys2Proof.Machine.execRdFxMult s
  | .wrFxMult v => Sys2Proof.Machine.execWrFxMult v s
  | .rdFxXIncrL => Sys2Proof.Machine.execRdFxXIncrL s
  | .wrFxXIncrL v => Sys2Proof.Machine.execWrFxXIncrL v s
  | .rdFxXIncrH => Sys2Proof.Machine.execRdFxXIncrH s
  | .wrFxXIncrH v => Sys2Proof.Machine.execWrFxXIncrH v s
  | .rdFxYIncrL => Sys2Proof.Machine.execRdFxYIncrL s
  | .wrFxYIncrL v => Sys2Proof.Machine.execWrFxYIncrL v s
  | .rdFxYIncrH => Sys2Proof.Machine.execRdFxYIncrH s
  | .wrFxYIncrH v => Sys2Proof.Machine.execWrFxYIncrH v s
  | .rdFxXPosL => Sys2Proof.Machine.execRdFxXPosL s
  | .wrFxXPosL v => Sys2Proof.Machine.execWrFxXPosL v s
  | .rdFxXPosH => Sys2Proof.Machine.execRdFxXPosH s
  | .wrFxXPosH v => Sys2Proof.Machine.execWrFxXPosH v s
  | .rdFxYPosL => Sys2Proof.Machine.execRdFxYPosL s
  | .wrFxYPosL v => Sys2Proof.Machine.execWrFxYPosL v s
  | .rdFxYPosH => Sys2Proof.Machine.execRdFxYPosH s
  | .wrFxYPosH v => Sys2Proof.Machine.execWrFxYPosH v s
  | .rdFxXPosS => Sys2Proof.Machine.execRdFxXPosS s
  | .wrFxXPosS v => Sys2Proof.Machine.execWrFxXPosS v s
  | .rdFxYPosS => Sys2Proof.Machine.execRdFxYPosS s
  | .wrFxYPosS v => Sys2Proof.Machine.execWrFxYPosS v s
  | .rdFxPolyFillL => Sys2Proof.Machine.execRdFxPolyFillL s
  | .wrFxPolyFillL v => Sys2Proof.Machine.execWrFxPolyFillL v s
  | .rdFxPolyFillH => Sys2Proof.Machine.execRdFxPolyFillH s
  | .wrFxPolyFillH v => Sys2Proof.Machine.execWrFxPolyFillH v s
  | .rdFxAccumReset => Sys2Proof.Machine.execRdFxAccumReset s
  | .wrFxCacheL v => Sys2Proof.Machine.execWrFxCacheL v s
  | .rdFxAccum => Sys2Proof.Machine.execRdFxAccum s
  | .wrFxCacheM v => Sys2Proof.Machine.execWrFxCacheM v s
  | .rdFxCacheH => Sys2Proof.Machine.execRdFxCacheH s
  | .wrFxCacheH v => Sys2Proof.Machine.execWrFxCacheH v s
  | .rdFxCacheU => Sys2Proof.Machine.execRdFxCacheU s
  | .wrFxCacheU v => Sys2Proof.Machine.execWrFxCacheU v s
  | .rdUndef0 bank => Sys2Proof.Machine.execRdUndef0 bank s
  | .wrUndef0 bank v => Sys2Proof.Machine.execWrUndef0 bank v s
  | .rdUndef1 bank => Sys2Proof.Machine.execRdUndef1 bank s
  | .wrUndef1 bank v => Sys2Proof.Machine.execWrUndef1 bank v s
  | .rdUndef2 bank => Sys2Proof.Machine.execRdUndef2 bank s
  | .wrUndef2 bank v => Sys2Proof.Machine.execWrUndef2 bank v s
  | .rdUndef3 bank => Sys2Proof.Machine.execRdUndef3 bank s
  | .wrUndef3 bank v => Sys2Proof.Machine.execWrUndef3 bank v s
  | .rdL0Config => Sys2Proof.Machine.execRdL0Config s
  | .wrL0Config v => Sys2Proof.Machine.execWrL0Config v s
  | .rdL0Mapbase => Sys2Proof.Machine.execRdL0Mapbase s
  | .wrL0Mapbase v => Sys2Proof.Machine.execWrL0Mapbase v s
  | .rdL0Tilebase => Sys2Proof.Machine.execRdL0Tilebase s
  | .wrL0Tilebase v => Sys2Proof.Machine.execWrL0Tilebase v s
  | .rdL0HscrollL => Sys2Proof.Machine.execRdL0HscrollL s
  | .wrL0HscrollL v => Sys2Proof.Machine.execWrL0HscrollL v s
  | .rdL0HscrollH => Sys2Proof.Machine.execRdL0HscrollH s
  | .wrL0HscrollH v => Sys2Proof.Machine.execWrL0HscrollH v s
  | .rdL0VscrollL => Sys2Proof.Machine.execRdL0VscrollL s
  | .wrL0VscrollL v => Sys2Proof.Machine.execWrL0VscrollL v s
  | .rdL0VscrollH => Sys2Proof.Machine.execRdL0VscrollH s
  | .wrL0VscrollH v => Sys2Proof.Machine.execWrL0VscrollH v s
  | .rdL1Config => Sys2Proof.Machine.execRdL1Config s
  | .wrL1Config v => Sys2Proof.Machine.execWrL1Config v s
  | .rdL1Mapbase => Sys2Proof.Machine.execRdL1Mapbase s
  | .wrL1Mapbase v => Sys2Proof.Machine.execWrL1Mapbase v s
  | .rdL1Tilebase => Sys2Proof.Machine.execRdL1Tilebase s
  | .wrL1Tilebase v => Sys2Proof.Machine.execWrL1Tilebase v s
  | .rdL1HscrollL => Sys2Proof.Machine.execRdL1HscrollL s
  | .wrL1HscrollL v => Sys2Proof.Machine.execWrL1HscrollL v s
  | .rdL1HscrollH => Sys2Proof.Machine.execRdL1HscrollH s
  | .wrL1HscrollH v => Sys2Proof.Machine.execWrL1HscrollH v s
  | .rdL1VscrollL => Sys2Proof.Machine.execRdL1VscrollL s
  | .wrL1VscrollL v => Sys2Proof.Machine.execWrL1VscrollL v s
  | .rdL1VscrollH => Sys2Proof.Machine.execRdL1VscrollH s
  | .wrL1VscrollH v => Sys2Proof.Machine.execWrL1VscrollH v s
  | .rdAudioCtrl => Sys2Proof.Machine.execRdAudioCtrl s
  | .wrAudioCtrl v => Sys2Proof.Machine.execWrAudioCtrl v s
  | .rdAudioRate => Sys2Proof.Machine.execRdAudioRate s
  | .wrAudioRate v => Sys2Proof.Machine.execWrAudioRate v s
  | .rdAudioData => Sys2Proof.Machine.execRdAudioData s
  | .wrAudioData v => Sys2Proof.Machine.execWrAudioData v s
  | .rdSpiData => Sys2Proof.Machine.execRdSpiData s
  | .wrSpiData v => Sys2Proof.Machine.execWrSpiData v s
  | .rdSpiCtrl => Sys2Proof.Machine.execRdSpiCtrl s
  | .wrSpiCtrl v => Sys2Proof.Machine.execWrSpiCtrl v s
  | .drdAddrL => Sys2Proof.Machine.execDrdAddrL s
  | .drdAddrM => Sys2Proof.Machine.execDrdAddrM s
  | .drdAddrH => Sys2Proof.Machine.execDrdAddrH s
  | .drdData0 => Sys2Proof.Machine.execDrdData0 s
  | .drdData1 => Sys2Proof.Machine.execDrdData1 s
  | .drdCtrl => Sys2Proof.Machine.execDrdCtrl s
  | .drdIen => Sys2Proof.Machine.execDrdIen s
  | .drdIsr => Sys2Proof.Machine.execDrdIsr s
  | .drdScanlineL => Sys2Proof.Machine.execDrdScanlineL s
  | .drdComp9 => Sys2Proof.Machine.execDrdComp9 s
  | .drdComp10 => Sys2Proof.Machine.execDrdComp10 s
  | .drdComp11 => Sys2Proof.Machine.execDrdComp11 s
  | .drdComp12 => Sys2Proof.Machine.execDrdComp12 s
  | .drdL0Config => Sys2Proof.Machine.execDrdL0Config s
  | .drdL0Mapbase => Sys2Proof.Machine.execDrdL0Mapbase s
  | .drdL0Tilebase => Sys2Proof.Machine.execDrdL0Tilebase s
  | .drdL0HscrollL => Sys2Proof.Machine.execDrdL0HscrollL s
  | .drdL0HscrollH => Sys2Proof.Machine.execDrdL0HscrollH s
  | .drdL0VscrollL => Sys2Proof.Machine.execDrdL0VscrollL s
  | .drdL0VscrollH => Sys2Proof.Machine.execDrdL0VscrollH s
  | .drdL1Config => Sys2Proof.Machine.execDrdL1Config s
  | .drdL1Mapbase => Sys2Proof.Machine.execDrdL1Mapbase s
  | .drdL1Tilebase => Sys2Proof.Machine.execDrdL1Tilebase s
  | .drdL1HscrollL => Sys2Proof.Machine.execDrdL1HscrollL s
  | .drdL1HscrollH => Sys2Proof.Machine.execDrdL1HscrollH s
  | .drdL1VscrollL => Sys2Proof.Machine.execDrdL1VscrollL s
  | .drdL1VscrollH => Sys2Proof.Machine.execDrdL1VscrollH s
  | .drdAudioCtrl => Sys2Proof.Machine.execDrdAudioCtrl s
  | .drdAudioRate => Sys2Proof.Machine.execDrdAudioRate s
  | .drdAudioData => Sys2Proof.Machine.execDrdAudioData s
  | .drdSpiData => Sys2Proof.Machine.execDrdSpiData s
  | .drdSpiCtrl => Sys2Proof.Machine.execDrdSpiCtrl s
  | .hostReset => Sys2Proof.Machine.execHostReset s
  | .hostStep n => Sys2Proof.Machine.execHostStep n s
  | .hostIrqQuery => Sys2Proof.Machine.execHostIrqQuery s
  | .hostFramebuffer => Sys2Proof.Machine.execHostFramebuffer s
  | .hostDump => Sys2Proof.Machine.execHostDump s
  | .hostSkipQuery => Sys2Proof.Machine.execHostSkipQuery s

end Sys2Proof.Machine
end

