-- ==== Sys2Proof/Machine/Fetch.lean ====
section
/-! DEFINITION. Fetch: how the next host operation reaches the device. The device fetches no
instructions (spec/00_scope.md R10): the host presents one operation at a time, so the operations to come
stand in the state's queue, each with the external inputs of its moment (spec/48_host_interfaces.md R380). -/

namespace Sys2Proof.Machine

/-- The operation presented next, as decoded under the current DCSEL (spec/30_encoding.md R114). -/
def decodeNext (s : State) (op : PendingOp) : Except DecodeError Instr := decode s.dcsel op.command

/-- The state in which the operation presented next is performed: it has left the queue, and its
external inputs stand. -/
def present (op : PendingOp) (rest : List PendingOp) (s : State) : State :=
  { s with queue := rest, inputs := op.inputs }

/-- A table word as the host presents it: a 16-bit command word with STEP operand 0. -/
def tableCommand (w : Nat) : HostCommand := ⟨BitVec.ofNat 16 w, 0⟩

/-- The state with one more operation presented before the others. -/
def presentFirst (c : HostCommand) (s : State) : State :=
  { s with queue := ⟨c, s.inputs⟩ :: s.queue }

end Sys2Proof.Machine
end

