-- ==== Sys2Proof/Machine/Step.lean ====
section
/-! DEFINITION. Step: one host operation (spec/00_scope.md R16: atomic and totally ordered). -/

namespace Sys2Proof.Machine

/-- One step: the operation the host presents next is decoded and performed; a word that spells no
operation is refused (spec/30_encoding.md R116); with nothing presented the device does nothing
(spec/47_scan_timing.md R350). -/
def step (s : State) : Host.Outcome State Fault Refusal :=
  match s.queue with
  | [] => .next s
  | op :: rest =>
    match decodeNext s op with
    | .ok i => exec i (present op rest s)
    | .error e => .refused (.invalidCommand e)

/-- The state in which the table word `w` is the operation presented next. -/
def State.withFetchWord (s : State) (_nbits w : Nat) : State := presentFirst (tableCommand w) s

end Sys2Proof.Machine
end

