-- ==== Sys2Proof/Safety.lean ====
section
/-! DEFINITION. Safety: the words the statements use. What a well-kept state is (`State.Inv`), what it is to
repeat an operation, which tick ends a frame or raises the line interrupt, and the spec's own arithmetic on
natural numbers and integers, written apart from the machine's bit vectors so that a statement compares the
two. -/

namespace Sys2Proof

/-! ## Operations -/

/-- `RD DATA0` or `RD DATA1`. -/
def PortId.readOp : PortId → Instr
  | .port0 => .rdData0
  | .port1 => .rdData1

/-- `WR DATA0, #v` or `WR DATA1, #v`. -/
def PortId.writeOp (v : Byte) : PortId → Instr
  | .port0 => .wrData0 v
  | .port1 => .wrData1 v

/-- The operation resets the device: `RESET`, or `WR CTRL` with bit 7 set (spec/70_reset_and_hazards.md
R430). -/
def Instr.resets : Instr → Prop
  | .hostReset => True
  | .wrCtrl v => 128 ≤ v.toNat
  | _ => False

/-- The operation is a `STEP`. -/
def Instr.steps : Instr → Prop
  | .hostStep _ => True
  | _ => False

end Sys2Proof

namespace Sys2Proof.Machine

/-! ## The invariant -/

/-- Every fourth byte of a framebuffer line is the alpha 0xFF (spec/10_state.md R47). -/
def FrameLines.alphas (bytes : List Byte) : Prop := ∀ x < screenW, bytes[4 * x + 3]? = some 0xFF

/-- What every step keeps: VRAM in its canonical form, the framebuffer 480 lines at most of 640 opaque
pixels each, and the scan counters in the ranges of spec/10_state.md R43 with FIELD as R45 says. -/
structure State.Inv (s : State) : Prop where
  mem : Memory.wf s.cfg s.mem = true
  fb : FrameLines.wf s.fb = true
  alpha : ∀ line ∈ s.fb, FrameLines.alphas line.2
  vgaX : s.scan.vgaX < 800
  vgaY : s.scan.vgaY < 525
  ntscX : s.scan.ntscX < s.cfg.ntscHalfW
  ntscY : s.scan.ntscY < 1050
  field : s.scan.field = decide (525 ≤ s.scan.ntscY)

/-! ## Direct mode -/

/-- The state with A1MODE 0, every other control bit as it is (spec/43_fx_engine.md R234). -/
def State.direct (s : State) : State :=
  { s with comp := s.comp.set 8 (BitVec.ofNat 8 (s.comp[8].toNat / 4 * 4)) }

/-- The operation does what it does in mode 0: the two next states differ in A1MODE alone. -/
def actsAsDirect (i : Instr) (s : State) : Prop :=
  ∃ t, exec i s = .next t ∧ exec i s.direct = .next { t with comp := s.direct.comp }

/-- Nibble stepping does not act on port `p` (R233): no 4-bit mode, no auto-increment, or a step that is
not 0. -/
def nibbleIdle (s : State) (p : PortId) : Prop :=
  s.mode4 = false ∨ (s.port p).nibInc = false ∨ 1 < (s.port p).inc.toNat

/-! ## Sequences, events and debug reads -/

/-- One operation performed `n` times in sequence. -/
def repeatOp (i : Instr) : Nat → State → Answer
  | 0, s => .next s
  | n + 1, s =>
    match exec i s with
    | .next t => repeatOp i n t
    | .fault f => .fault f
    | .refused r => .refused r

/-- The events one stored byte emits (spec/20_memory.md R86): one in the audio shadow window, none elsewhere. -/
def storeEvents (a : VAddr) (v : Byte) : List Event :=
  if 0x1F9C0 ≤ a.toNat ∧ a.toNat ≤ 0x1F9FF then [.audioWrite (a.toNat - 0x1F9C0) v] else []

/-- The debug reads of the indices 0 to 2 and 5 to 8, each with its READ. -/
def debugPortPairs : List (Instr × Instr) :=
  [(.drdAddrL, .rdAddrL), (.drdAddrM, .rdAddrM), (.drdAddrH, .rdAddrH), (.drdCtrl, .rdCtrl),
    (.drdIen, .rdIen), (.drdIsr, .rdIsr), (.drdScanlineL, .rdScanlineL)]

/-- The debug reads of layer 0's registers, each with its READ. -/
def debugLayer0Pairs : List (Instr × Instr) :=
  [(.drdL0Config, .rdL0Config), (.drdL0Mapbase, .rdL0Mapbase), (.drdL0Tilebase, .rdL0Tilebase),
    (.drdL0HscrollL, .rdL0HscrollL), (.drdL0HscrollH, .rdL0HscrollH), (.drdL0VscrollL, .rdL0VscrollL),
    (.drdL0VscrollH, .rdL0VscrollH)]

/-- The debug reads of layer 1's registers, each with its READ. -/
def debugLayer1Pairs : List (Instr × Instr) :=
  [(.drdL1Config, .rdL1Config), (.drdL1Mapbase, .rdL1Mapbase), (.drdL1Tilebase, .rdL1Tilebase),
    (.drdL1HscrollL, .rdL1HscrollL), (.drdL1HscrollH, .rdL1HscrollH), (.drdL1VscrollL, .rdL1VscrollL),
    (.drdL1VscrollH, .rdL1VscrollH)]

/-- The debug reads of the forwarded registers, each with its READ. -/
def debugForwardPairs : List (Instr × Instr) :=
  [(.drdAudioCtrl, .rdAudioCtrl), (.drdAudioRate, .rdAudioRate), (.drdAudioData, .rdAudioData),
    (.drdSpiData, .rdSpiData), (.drdSpiCtrl, .rdSpiCtrl)]

/-- The debug reads whose byte and whose READ's byte do not depend on DCSEL and whose READ has no side
effect (spec/48_host_interfaces.md R388): each with its READ. -/
def debugPairs : List (Instr × Instr) :=
  debugPortPairs ++ debugLayer0Pairs ++ debugLayer1Pairs ++ debugForwardPairs

/-- The debug reads of indices 9 to 12, each with its index (R388). -/
def debugComposerReads : List (Instr × Nat) :=
  [(.drdComp9, 9), (.drdComp10, 10), (.drdComp11, 11), (.drdComp12, 12)]

/-! ## The spec's arithmetic -/

/-- `IncrOf(h, l)` (spec/42_fx_registers.md R212) as an integer number of 1/65536ths: a 15-bit two's
complement number of 1/512ths, times 32 when bit 7 of `h` is set. -/
def incrementValue (h l : Byte) : Int :=
  let raw : Int := ((h.toNat % 128 * 256 + l.toNat : Nat) : Int)
  let signed := if raw < 16384 then raw else raw - 32768
  if 128 ≤ h.toNat then signed * 128 * 32 else signed * 128

/-- `SpanLength()` (spec/43_fx_engine.md R237): right minus left, clamped to 0 to 1023. -/
def spanValue (s : State) : Nat := min (s.fx.yPos.toInt / 65536 - s.fx.xPos.toInt / 65536).toNat 1023

/-- Operand A of the multiplier (R251): cache bytes 1 and 0 as a signed 16-bit number. -/
def operandA (s : State) : Int := (s.fx.cache[1] ++ s.fx.cache[0] : BitVec 16).toInt

/-- Operand B of the multiplier (R251): cache bytes 3 and 2 as a signed 16-bit number. -/
def operandB (s : State) : Int := (s.fx.cache[3] ++ s.fx.cache[2] : BitVec 16).toInt

/-- The accumulator after adding or subtracting the product, wrapping (R252). -/
def accumulatedValue (sub : Bool) (s : State) : BitVec 32 :=
  if sub then s.fx.acc - BitVec.ofInt 32 (operandA s * operandB s)
  else s.fx.acc + BitVec.ofInt 32 (operandA s * operandB s)

/-- `SCANLINE` (spec/40_ports_and_control.md R162) as a number below 512. -/
def scanlineValue (s : State) : Nat :=
  (if s.comp[0].getLsbD 1 then s.scan.ntscY % 525 else s.scan.vgaY) % 512

/-- The byte a single-byte store leaves where `old` was (spec/43_fx_engine.md R242). -/
def storedByte (s : State) (nib : Bool) (old b : Byte) : Byte :=
  if s.mode4 then
    if nib then
      if s.transp ∧ b.toNat % 16 = 0 then old else BitVec.ofNat 8 (old.toNat / 16 * 16 + b.toNat % 16)
    else
      if s.transp ∧ b.toNat / 16 = 0 then old else BitVec.ofNat 8 (b.toNat / 16 * 16 + old.toNat % 16)
  else if s.transp ∧ b.toNat = 0 then old else b

/-- A single-byte store is skipped: its byte, or its nibble in 4-bit mode, is 0 under TRANSP (R242). -/
def storeSkipped (s : State) (nib : Bool) (b : Byte) : Prop :=
  s.transp = true ∧ (if s.mode4 then (if nib then b.toNat % 16 = 0 else b.toNat / 16 = 0) else b.toNat = 0)

/-- The high nibble of byte `b` of a cache write is protected by mask `m` or by TRANSP (R250). -/
def highProtected (s : State) (b : Byte) (m : Nat) : Prop :=
  2 ≤ m ∨ s.transp = true ∧ (if s.mode4 then b.toNat / 16 = 0 else b.toNat = 0)

/-- The low nibble of byte `b` of a cache write is protected by mask `m` or by TRANSP (R250). -/
def lowProtected (s : State) (b : Byte) (m : Nat) : Prop :=
  m % 2 = 1 ∨ s.transp = true ∧ (if s.mode4 then b.toNat % 16 = 0 else b.toNat = 0)

/-- The byte offered to address `k` of a cache write (R249). -/
def cacheWriteSource (s : State) (k : Fin 4) : Byte :=
  if s.cacheCyc then s.fx.cache[s.fx.cByte.toNat]'s.fx.cByte.isLt
  else if s.multEn then BitVec.ofNat 8 ((accumulatedValue s.subtract s).toNat / 256 ^ k.val)
  else s.fx.cache[k]

/-- Tiles per side of the affine map (spec/10_state.md R32): 2, 8, 32 or 128. -/
def affineSide (s : State) : Nat := 2 * 4 ^ (s.comp[10].toNat % 4)

/-- The tile index the affine lookup finds for positions `x` and `y` (spec/43_fx_engine.md R239). -/
def affineTile (s : State) (x y : Fixed) : Nat :=
  let xt := x.toNat / 2 ^ 19 % 256
  let yt := y.toNat / 2 ^ 19 % 256
  if s.affClip ∧ (affineSide s ≤ xt ∨ affineSide s ≤ yt) then 0
  else (s.vram (s.comp[10].toNat / 4 * 2048 + yt % affineSide s * affineSide s + xt % affineSide s)).toNat

/-- The texel address the affine lookup finds for positions `x` and `y` (R239). -/
def affineTexel (s : State) (x y : Fixed) : Nat :=
  let xs := x.toNat / 2 ^ 16 % 8
  let ys := y.toNat / 2 ^ 16 % 8
  if s.mode4 then s.comp[9].toNat / 4 * 2048 + affineTile s x y * 32 + ys * 4 + xs / 2
  else s.comp[9].toNat / 4 * 2048 + affineTile s x y * 64 + ys * 8 + xs

/-! ## Layers (spec/44_layers.md R272 to R278), from the raw register bytes -/

/-- Bits per pixel. -/
def layerBits (r : LayerRegs) : Nat := 2 ^ (r.config.toNat % 4)

/-- Tile width in pixels. -/
def layerTileW (r : LayerRegs) : Nat := if r.tileBase.toNat % 2 = 1 then 16 else 8

/-- Tile height in pixels. -/
def layerTileH (r : LayerRegs) : Nat := if r.tileBase.toNat / 2 % 2 = 1 then 16 else 8

/-- Map width in tiles. -/
def layerMapW (r : LayerRegs) : Nat := 32 * 2 ^ (r.config.toNat / 16 % 4)

/-- Map height in tiles. -/
def layerMapH (r : LayerRegs) : Nat := 32 * 2 ^ (r.config.toNat / 64)

/-- Bitmap width in pixels. -/
def layerBitmapW (r : LayerRegs) : Nat := if r.tileBase.toNat % 2 = 1 then 640 else 320

/-- Horizontal scroll. -/
def layerScrollX (r : LayerRegs) : Nat := r.hscrollH.toNat % 16 * 256 + r.hscrollL.toNat

/-- Vertical scroll. -/
def layerScrollY (r : LayerRegs) : Nat := r.vscrollH.toNat % 16 * 256 + r.vscrollL.toNat

/-- Address of the two-byte map entry at `(ex, ey)` (R275): row-major, two bytes a cell. -/
def layerCell (r : LayerRegs) (ex ey : Nat) : Nat :=
  r.mapBase.toNat * 512 + 2 * (ey / layerTileH r * layerMapW r + ex / layerTileW r)

/-- Address of the byte of glyph `glyph` that holds pixel `(xx, yy)` (R276). -/
def layerGlyph (r : LayerRegs) (glyph xx yy : Nat) : Nat :=
  r.tileBase.toNat / 4 * 2048 + glyph * (layerTileW r / 8 * layerTileH r) + yy * (layerTileW r / 8) + xx / 8

/-- Address of the byte of tile `tile` that holds pixel `(xx, yy)` (R277). -/
def layerTexel (r : LayerRegs) (tile xx yy : Nat) : Nat :=
  r.tileBase.toNat / 4 * 2048 + tile * (layerBits r * layerTileW r / 8 * layerTileH r) +
    yy * (layerBits r * layerTileW r / 8) + xx * layerBits r / 8

/-! ## Ticks -/

/-- The state `n` ticks later. -/
def afterTicks (n : Nat) (s : State) : State := (ticks n s false).1

/-- The tick from this state executes `FrameBoundary()`. -/
def tickEndsFrame (s : State) : Bool := (tick s).2

/-- The tick from this state sets `ISR_LINE`. -/
def tickRaisesLine (s : State) : Bool := (tick (s.setIsr { s.isr with line := false })).1.isr.line

/-- How many of the first `n` ticks start in a state with the property. -/
def countTicks (property : State → Bool) : Nat → State → Nat
  | 0, _ => 0
  | n + 1, s => (if property s then 1 else 0) + countTicks property n (tick s).1

end Sys2Proof.Machine
end

