-- ==== Sys2Proof/Certificates/Slice0/Obligations.lean ====
section
/-! DEFINITION. Obligations: the statements for the provers. Each docstring names the rules of spec/ the
statement formalises. A statement that an operation completes has the form `exec i s = .next t`; `t` written
as `s` with the fields the operation writes is also the operation's frame: every field not named is
unchanged. An operation on a composer slot acts on the slot its constructor names in every state; DCSEL
decides only which operation a word spells (R114; the model's choice, notes/assumptions/9.md). The model's own
field `result` holds what the operation returns (notes/assumptions/7.md). -/

open Sys2Proof Sys2Proof.Machine

/-! ## Commands -/

/-- R110, R112 to R114: decoding the command that spells an operation, in the bank that spells it, gives the
operation back, with every operand. -/
def Obligations.DecodeOfEncodeIsTheOperation : Prop :=
  ∀ (i : Instr) (dcsel : BitVec 6), i.wellFormed = true → i.spelledUnder dcsel = true →
    decode dcsel (encode i) = .ok i

/-- R110 to R114: a command that decodes is the encoding of what it decodes to, so no two words of one bank
spell one operation and no bit of a word is ignored. -/
def Obligations.EncodeOfDecodeIsTheCommand : Prop :=
  ∀ (dcsel : BitVec 6) (cmd : HostCommand) (i : Instr), decode dcsel cmd = .ok i →
    i.wellFormed = true ∧ i.spelledUnder dcsel = true ∧ (encode i).word = cmd.word ∧
      ∀ n, i = .hostStep n → n = cmd.operand

/-- R116: a step refuses the command presented exactly when its word has bit 13 set, or DATA other than 0
outside a WRITE, or call number 6 to 31. -/
def Obligations.InvalidWordsAreRefused : Prop :=
  ∀ (s : State) (op : PendingOp) (rest : List PendingOp), s.queue = op :: rest →
    ((∃ e, step s = .refused (.invalidCommand e)) ↔
      op.command.word.toNat / 8192 % 2 = 1 ∨
      (op.command.word.toNat / 16384 ≠ 1 ∧ op.command.word.toNat % 256 ≠ 0) ∨
      (op.command.word.toNat / 16384 = 3 ∧ 6 ≤ op.command.word.toNat / 256 % 32))

/-- The words of R118 and of the rules' encodings decode to the operations the spec gives them. -/
def Obligations.WordsOfTheSpecDecode : Prop :=
  decode 0 ⟨0x4007, 0⟩ = .ok (.wrAddrL 0x07) ∧
  decode 5 ⟨0x0300, 0⟩ = .ok .rdData0 ∧
  decode 0 ⟨0x4971, 0⟩ = .ok (.wrDcVideo 0x71) ∧
  decode 1 ⟨0x4971, 0⟩ = .ok (.wrDcHstart 0x71) ∧
  decode 2 ⟨0x4C40, 0⟩ = .ok (.wrFxMult 0x40) ∧
  decode 6 ⟨0x0A00, 0⟩ = .ok .rdFxAccum ∧
  decode 63 ⟨0x0900, 0⟩ = .ok (.rdUndef0 63) ∧
  decode 0 ⟨0x5A0F, 0⟩ = .ok (.wrL1VscrollH 0x0F) ∧
  decode 0 ⟨0x5C80, 0⟩ = .ok (.wrAudioRate 0x80) ∧
  decode 7 ⟨0x8C00, 0⟩ = .ok .drdComp12 ∧
  decode 0 ⟨0xC100, 420000⟩ = .ok (.hostStep 420000) ∧
  decode 0 ⟨0xC400, 0⟩ = .ok .hostDump

/-- R16, R114, R350 (and notes/assumptions/1.md, how operations are presented): a step performs the operation
that the first command presented spells, in the state without that command and with that command's external
inputs; with nothing presented a step changes nothing. -/
def Obligations.StepPerformsThePresentedOperation : Prop :=
  (∀ (s : State) (op : PendingOp) (rest : List PendingOp) (i : Instr), s.queue = op :: rest →
    decode s.dcsel op.command = .ok i → i.wellFormed = true →
      step s = exec i { s with queue := rest, inputs := op.inputs }) ∧
  ∀ s : State, s.queue = [] → step s = .next s

/-! ## The whole machine -/

/-- Every step keeps the invariant: VRAM canonical, framebuffer lines whole and opaque, scan counters in
their ranges and FIELD equal to NTSC_Y ≥ 525 (R21, R43, R45, R47). -/
def Obligations.StepKeepsTheInvariant : Prop :=
  ∀ s t : State, s.Inv → step s = .next t → t.Inv

/-- The state after power-on reset meets the invariant. -/
def Obligations.ResetMeetsTheInvariant : Prop := State.reset.Inv

/-- R400: every operation completes in every state, so every valid command answers a next state. -/
def Obligations.EveryOperationCompletes : Prop :=
  (∀ (i : Instr) (s : State), ∃ t, exec i s = .next t) ∧
  ∀ (s : State) (op : PendingOp) (rest : List PendingOp) (i : Instr), s.queue = op :: rest →
    decode s.dcsel op.command = .ok i → ∃ t, step s = .next t

/-- R10, R380, R394: no operation changes the parameters, the commands still to be presented or the external
inputs, and what an operation emits follows what was emitted before. -/
def Obligations.SurroundingsAreKept : Prop :=
  ∀ (i : Instr) (s t : State), exec i s = .next t →
    t.cfg = s.cfg ∧ t.queue = s.queue ∧ t.inputs = s.inputs ∧ ∃ new, t.events = s.events ++ new

/-- What the spec derives from R354 and R355 ("No host operation writes them except reset, which zeroes
them"), with R46 and R47: only STEP and a reset change the scan counters, FIELD, the collision accumulator and the
framebuffer. -/
def Obligations.OnlyStepAndResetTouchTheRaster : Prop :=
  ∀ (i : Instr) (s t : State), exec i s = .next t → ¬ i.steps → ¬ i.resets →
    t.scan = s.scan ∧ t.collAcc = s.collAcc ∧ t.fb = s.fb

/-- R252: the accumulator changes only on a write to FX_MULT with bit 6 or 7 set, on a read of slots 24 and
25, and on a reset. -/
def Obligations.AccumulatorChangesOnlyWhereTheSpecSays : Prop :=
  ∀ (i : Instr) (s t : State), exec i s = .next t → t.fx.acc ≠ s.fx.acc →
    i = .rdFxAccumReset ∨ i = .rdFxAccum ∨ (∃ v : Byte, i = .wrFxMult v ∧ 64 ≤ v.toNat) ∨ i.resets

/-- R404 and what the spec derives from it ("no way for the host to set a status bit by a register write"): no
operation but STEP sets an interrupt status bit, and STEP clears none. -/
def Obligations.StatusBitsAreSetByStepsAndClearedByTheHost : Prop :=
  ∀ (i : Instr) (s t : State), exec i s = .next t →
    (¬ i.steps → (t.isr.vsync = true → s.isr.vsync = true) ∧ (t.isr.line = true → s.isr.line = true) ∧
      (t.isr.sprCol = true → s.isr.sprCol = true)) ∧
    (i.steps → (s.isr.vsync = true → t.isr.vsync = true) ∧ (s.isr.line = true → t.isr.line = true) ∧
      (s.isr.sprCol = true → t.isr.sprCol = true))

/-- R82, R90, R241: a byte of VRAM changes only by a write to a data window or a reset. -/
def Obligations.OnlyDataWritesAndResetTouchVram : Prop :=
  ∀ (i : Instr) (s t : State) (a : VAddr), exec i s = .next t → t.readByte a ≠ s.readByte a →
    (∃ v, i = .wrData0 v) ∨ (∃ v, i = .wrData1 v) ∨ i.resets

/-! ## Port address registers -/

/-- R140, R142, R144: the three address registers read the selected port's fields and change nothing. -/
def Obligations.AddressRegisterReads : Prop :=
  ∀ (s : State) (q : Port), s.port s.addrSel = q →
    exec .rdAddrL s = .next { s with result := .byte (BitVec.ofNat 8 (q.addr.toNat % 256)) } ∧
    exec .rdAddrM s = .next { s with result := .byte (BitVec.ofNat 8 (q.addr.toNat / 256 % 256)) } ∧
    exec .rdAddrH s = .next
      { s with
        result := .byte (BitVec.ofNat 8
          (q.inc.toNat * 8 + q.nibInc.toNat * 4 + q.nib.toNat * 2 + q.addr.toNat / 65536)) }

/-- R141, R143, R145: a write of an address register replaces its part of the selected port, refills that
port's read cache from the new address, latches the hop alignment (ADDR_L, port 1, HOP16 set), and changes
nothing else. -/
def Obligations.AddressRegisterWrites : Prop :=
  ∀ (s : State) (v : Byte) (p : PortId) (q : Port) (old : Nat),
    s.addrSel = p → s.port p = q → q.addr.toNat = old →
    (∀ a : VAddr, a.toNat = old / 256 * 256 + v.toNat →
      exec (.wrAddrL v) s = .next
        { s.setPort p { q with addr := a, rdData := s.readByte a } with
          fx := if p = .port1 ∧ s.hop16 = true then { s.fx with hopAlign := BitVec.ofNat 2 v.toNat } else s.fx
          result := .nothing }) ∧
    (∀ a : VAddr, a.toNat = old / 65536 * 65536 + v.toNat * 256 + old % 256 →
      exec (.wrAddrM v) s = .next
        { s.setPort p { q with addr := a, rdData := s.readByte a } with result := .nothing }) ∧
    (∀ a : VAddr, a.toNat = v.toNat % 2 * 65536 + old % 65536 →
      exec (.wrAddrH v) s = .next
        { s.setPort p
            { addr := a, inc := BitVec.ofNat 5 (v.toNat / 8), nib := v.getLsbD 1, nibInc := v.getLsbD 2,
              rdData := s.readByte a } with
          result := .nothing })

/-- R23: the increment table: even index `2k` holds the `k`-th step, odd index `2k+1` its negation. -/
def Obligations.IncrementTableIsTheSpecs : Prop :=
  ∀ k : Fin 16,
    stepOf (BitVec.ofNat 5 (2 * k.val)) =
      ([0, 1, 2, 4, 8, 16, 32, 64, 128, 256, 512, 40, 80, 160, 320, 640] : List Int).getD k.val 0 ∧
    stepOf (BitVec.ofNat 5 (2 * k.val + 1)) = -stepOf (BitVec.ofNat 5 (2 * k.val))

/-! ## Data windows -/

/-- R146, R147 and R440, with FX_CTRL = 0: a data read returns the byte cached before it, moves that port by
its step modulo 131072, refills its cache from the new address, and changes nothing else. -/
def Obligations.PlainDataReads : Prop :=
  ∀ s : State, s.comp[8] = 0 →
    (∀ a : VAddr, a = s.port0.addr + BitVec.ofInt 17 (stepOf s.port0.inc) →
      exec .rdData0 s = .next
        { s with port0 := { s.port0 with addr := a, rdData := s.readByte a }
                 result := .byte s.port0.rdData }) ∧
    (∀ a : VAddr, a = s.port1.addr + BitVec.ofInt 17 (stepOf s.port1.inc) →
      exec .rdData1 s = .next
        { s with port1 := { s.port1 with addr := a, rdData := s.readByte a }
                 result := .byte s.port1.rdData })

/-- R148, R149 and R86, with FX_CTRL = 0: a data write stores the byte at the address before the advance and
at no other, emits the audio event of that address, moves that port by its step, refills its cache from the
new address after the store, and changes nothing else. -/
def Obligations.PlainDataWrites : Prop :=
  ∀ (s : State) (v : Byte), s.comp[8] = 0 →
    (∀ a : VAddr, a = s.port0.addr + BitVec.ofInt 17 (stepOf s.port0.inc) →
      ∃ t, exec (.wrData0 v) s = .next t ∧
        (∀ b, t.readByte b = if b = s.port0.addr then v else s.readByte b) ∧
        t = { s with mem := t.mem, events := s.events ++ storeEvents s.port0.addr v
                     port0 := { s.port0 with addr := a, rdData := t.readByte a }
                     result := .nothing }) ∧
    (∀ a : VAddr, a = s.port1.addr + BitVec.ofInt 17 (stepOf s.port1.inc) →
      ∃ t, exec (.wrData1 v) s = .next t ∧
        (∀ b, t.readByte b = if b = s.port1.addr then v else s.readByte b) ∧
        t = { s with mem := t.mem, events := s.events ++ storeEvents s.port1.addr v
                     port1 := { s.port1 with addr := a, rdData := t.readByte a }
                     result := .nothing })

/-- R240, whatever the FX control bits: a data read returns the byte cached before it, leaves that port's
cache holding the byte at its new address, and changes at most the ports' addresses, nibble selects and
caches, the FX positions and the FX cache with its indices. The positions step in the modes and on the ports of
R234 to R238 and nowhere else: none in mode 0, x alone on the stepping port in mode 1, both on port 0 in mode 2
and on port 1 in mode 3. Without CACHE_FILL the FX cache and both indices stay, but for the byte index of a
cycling port-0 read in mode 2 (R236). -/
def Obligations.DataReadsInEveryMode : Prop :=
  ∀ (p : PortId) (s : State), ∃ t, exec p.readOp s = .next t ∧
    t = { s with port0 := t.port0, port1 := t.port1, fx := t.fx, result := .byte (s.port p).rdData } ∧
    (t.port p).rdData = s.readByte (t.port p).addr ∧
    (∀ q, (t.port q).inc = (s.port q).inc ∧ (t.port q).nibInc = (s.port q).nibInc) ∧
    (p = .port1 → t.port0 = s.port0) ∧
    (p = .port0 → s.a1Mode = 0 ∨ s.a1Mode = 3 → t.port1 = s.port1) ∧
    t.fx = { s.fx with xPos := t.fx.xPos, yPos := t.fx.yPos, cache := t.fx.cache, cByte := t.fx.cByte
                       cNib := t.fx.cNib } ∧
    (s.a1Mode = 0 → t.fx.xPos = s.fx.xPos ∧ t.fx.yPos = s.fx.yPos) ∧
    (s.a1Mode = 1 → t.fx.yPos = s.fx.yPos ∧
      t.fx.xPos = if p = s.cfg.lineStepPort then s.fx.xPos + s.fx.xInc else s.fx.xPos) ∧
    (s.a1Mode = 2 →
      t.fx.xPos = (if p = .port0 then s.fx.xPos + s.fx.xInc else s.fx.xPos) ∧
      t.fx.yPos = (if p = .port0 then s.fx.yPos + s.fx.yInc else s.fx.yPos)) ∧
    (s.a1Mode = 3 →
      t.fx.xPos = (if p = .port1 then s.fx.xPos + s.fx.xInc else s.fx.xPos) ∧
      t.fx.yPos = (if p = .port1 then s.fx.yPos + s.fx.yInc else s.fx.yPos)) ∧
    (s.cacheFill = false → t.fx.cache = s.fx.cache ∧ t.fx.cNib = s.fx.cNib ∧
      t.fx.cByte =
        if s.a1Mode = 2 ∧ p = .port0 ∧ s.cacheCyc = true then s.fx.cByte + 1 else s.fx.cByte)

/-- R241, whatever the FX control bits: a data write stores at the address before the advance (with CACHE_WR,
at the four addresses of its aligned group) and at no other, leaves that port's cache holding the byte at its
new address, and changes besides at most the ports' addresses, nibble selects and caches, the events and, on
the stepping port in mode 1, the x position. -/
def Obligations.DataWritesInEveryMode : Prop :=
  ∀ (p : PortId) (s : State) (v : Byte), ∃ t, exec (p.writeOp v) s = .next t ∧
    (∀ b, (if s.cacheWr then b.toNat / 4 ≠ (s.port p).addr.toNat / 4 else b ≠ (s.port p).addr) →
      t.readByte b = s.readByte b) ∧
    t = { s with mem := t.mem, events := t.events, port0 := t.port0, port1 := t.port1, fx := t.fx
                 result := .nothing } ∧
    (t.port p).rdData = t.readByte (t.port p).addr ∧
    (∀ q, (t.port q).inc = (s.port q).inc ∧ (t.port q).nibInc = (s.port q).nibInc) ∧
    (p = .port1 → t.port0 = s.port0) ∧
    (p = .port0 → s.a1Mode ≠ 1 → t.port1 = s.port1) ∧
    t.fx = { s.fx with xPos := t.fx.xPos } ∧
    t.fx.xPos = if s.a1Mode = 1 ∧ p = s.cfg.lineStepPort then s.fx.xPos + s.fx.xInc else s.fx.xPos

/-- R231's law, with FX_CTRL = 0: `n` reads of a data window move its address by exactly `n` steps modulo
131072, for every step of the table. -/
def Obligations.AutoIncrementIsExact : Prop :=
  ∀ (p : PortId) (s : State) (n : Nat), s.comp[8] = 0 →
    ∃ t, repeatOp p.readOp n s = .next t ∧
      (t.port p).addr = (s.port p).addr + BitVec.ofInt 17 (n * stepOf (s.port p).inc)

/-- R89: a byte written through a data window with step 0 and FX_CTRL = 0 to an address outside the three
windows is the byte the next read of that data window returns. -/
def Obligations.DataPortRoundTrip : Prop :=
  ∀ (p : PortId) (s : State) (v : Byte), s.comp[8] = 0 → (s.port p).inc = 0 →
    (s.port p).addr.toNat < 0x1F9C0 →
    ∃ t u, exec (p.writeOp v) s = .next t ∧ exec p.readOp t = .next u ∧ u.result = .byte v

/-- R441: with both ports at one address and step 0, a byte written through port 0 is not what the next read
of port 1 returns (that read returns port 1's cached byte), and is what the read after that returns. -/
def Obligations.StaleLatchThroughTheOtherPort : Prop :=
  ∀ (s : State) (v : Byte), s.comp[8] = 0 → s.port0.inc = 0 → s.port1.inc = 0 →
    s.port0.addr = s.port1.addr →
    ∃ t u w, exec (.wrData0 v) s = .next t ∧ exec .rdData1 t = .next u ∧ exec .rdData1 u = .next w ∧
      u.result = .byte s.port1.rdData ∧ w.result = .byte v

/-! ## FX address generation -/

/-- R232: with HOP16, an access to port 1 whose step is +4 moves it by 1 or 3, and +320 by 1 or 319, as the
address before the access agrees with the hop alignment or not, and every other step moves it by the step
(mode 0; modes 1 to 3 where they act as mode 0 are in LineDrawCarries, PolygonSpanReads and AffineReads);
port 0 moves by its step in every mode. Nibble stepping not acting. -/
def Obligations.HopSteps : Prop :=
  ∀ (s : State) (v : Byte) (i : Instr), s.hop16 = true →
    (i = .rdData1 ∨ i = .wrData1 v → s.a1Mode = 0 → nibbleIdle s .port1 →
      ∃ t, exec i s = .next t ∧
        t.port1.addr = s.port1.addr + BitVec.ofInt 17
          (if stepOf s.port1.inc = 4 then
            (if s.port1.addr.toNat % 4 = s.fx.hopAlign.toNat then 1 else 3)
          else if stepOf s.port1.inc = 320 then
            (if s.port1.addr.toNat % 4 = s.fx.hopAlign.toNat then 1 else 319)
          else stepOf s.port1.inc)) ∧
    (i = .rdData0 ∨ i = .wrData0 v → nibbleIdle s .port0 →
      ∃ t, exec i s = .next t ∧ t.port0.addr = s.port0.addr + BitVec.ofInt 17 (stepOf s.port0.inc))

/-- R233, for port 0 in every mode and for port 1 in mode 0 (modes 1 to 3 where they act as mode 0 are in
LineDrawCarries, PolygonSpanReads and AffineReads): in 4-bit mode with nibble auto-increment and step 0, an
access moves the nibble cursor, forward for index 0 and backward for index 1, and the address only when the
cursor leaves its byte. Without 4-bit mode or nibble auto-increment, or with another step, the nibble select
stays and the address advances by the step (port 1 without hop). -/
def Obligations.NibbleSteps : Prop :=
  ∀ (p : PortId) (s : State) (v : Byte) (i : Instr), i = p.readOp ∨ i = p.writeOp v →
    s.a1Mode = 0 ∨ p = .port0 →
    ∃ t, exec i s = .next t ∧
      (s.mode4 = true → (s.port p).nibInc = true → (s.port p).inc = 0 →
        (t.port p).nib = !(s.port p).nib ∧
        (t.port p).addr = if (s.port p).nib then (s.port p).addr + 1 else (s.port p).addr) ∧
      (s.mode4 = true → (s.port p).nibInc = true → (s.port p).inc = 1 →
        (t.port p).nib = !(s.port p).nib ∧
        (t.port p).addr = if (s.port p).nib then (s.port p).addr else (s.port p).addr - 1) ∧
      (nibbleIdle s p →
        (t.port p).nib = (s.port p).nib ∧
        (s.hop16 = false ∨ p = .port0 →
          (t.port p).addr = (s.port p).addr + BitVec.ofInt 17 (stepOf (s.port p).inc)))

/-- R235: in line-draw mode each access, read or write, to the stepping port LINE_STEP_PORT (R8: port 0, or port 1)
adds the increment to the x position and, after the accessed port's own advance, which is as in mode 0, moves
port 1 by port 0's step once for every carry into the integer part; y, port 0's advance and both nibble selects
are as in mode 0. Stepped by port 0, port 1's cache is refilled by a carry and by nothing else; stepped by port 1,
it holds what the access itself refills it with (R240, R241). So `n` accesses to a stepping port 0 from a position
without fraction move port 1 by exactly floor(n * inc / 65536) steps. An access to the other port acts as in
mode 0. -/
def Obligations.LineDrawCarries : Prop :=
  ∀ (p : PortId) (s : State) (v : Byte) (i : Instr), i = p.readOp ∨ i = p.writeOp v → s.a1Mode = 1 →
    (p ≠ s.cfg.lineStepPort → actsAsDirect i s) ∧
    (p = s.cfg.lineStepPort →
      (∀ sum carries : Int, sum = s.fx.xPos.toInt + s.fx.xInc.toInt →
        carries = sum / 65536 - s.fx.xPos.toInt / 65536 →
        ∃ t u, exec i s = .next t ∧ exec i s.direct = .next u ∧
          t.fx.xPos = BitVec.ofInt 32 sum ∧ t.fx.yPos = s.fx.yPos ∧
          t.port0 = u.port0 ∧ t.port1.nib = u.port1.nib ∧
          t.port1.addr = u.port1.addr + BitVec.ofInt 17 (carries * stepOf s.port0.inc) ∧
          (p = .port0 →
            t.port1.nib = s.port1.nib ∧
            t.port1.addr = s.port1.addr + BitVec.ofInt 17 (carries * stepOf s.port0.inc) ∧
            t.port1.rdData = if carries = 0 then s.port1.rdData else s.readByte t.port1.addr) ∧
          (p = .port1 → t.port0 = s.port0 ∧ t.port1.rdData = t.readByte t.port1.addr)) ∧
      (p = .port0 → s.fx.xPos.toNat % 65536 = 0 →
        ∀ n : Nat, ∃ t, repeatOp i n s = .next t ∧
          t.port1.addr =
            s.port1.addr + BitVec.ofInt 17 (n * s.fx.xInc.toInt / 65536 * stepOf s.port0.inc)))

/-- R236: in polygon mode a read of port 0 steps both edges (and, cycling without filling, the cache index),
a read of either port then derives port 1's address as port 0's (after its own advance, which is as in mode 0)
plus the floor of the x position and refills its cache, port 1's nibble select being as in mode 0 after a read
of port 1 and unchanged after one of port 0; a write steps and derives nothing and acts as in mode 0. -/
def Obligations.PolygonSpanReads : Prop :=
  ∀ (s : State) (v : Byte), s.a1Mode = 2 →
    actsAsDirect (.wrData0 v) s ∧ actsAsDirect (.wrData1 v) s ∧
    (∃ t u, exec .rdData0 s = .next t ∧ exec .rdData0 s.direct = .next u ∧ t.port0 = u.port0 ∧
      t.port1.nib = s.port1.nib ∧ t.fx.xPos = s.fx.xPos + s.fx.xInc ∧ t.fx.yPos = s.fx.yPos + s.fx.yInc ∧
      (s.cacheFill = false → t.fx.cByte = if s.cacheCyc then s.fx.cByte + 1 else s.fx.cByte) ∧
      t.port1.addr = t.port0.addr + BitVec.ofInt 17 (t.fx.xPos.toInt / 65536) ∧
      t.port1.rdData = s.readByte t.port1.addr) ∧
    (∃ t u, exec .rdData1 s = .next t ∧ exec .rdData1 s.direct = .next u ∧ t.port0 = s.port0 ∧
      t.port1.nib = u.port1.nib ∧ t.fx.xPos = s.fx.xPos ∧ t.fx.yPos = s.fx.yPos ∧
      (s.cacheFill = false → t.fx.cByte = s.fx.cByte) ∧
      t.port1.addr = s.port0.addr + BitVec.ofInt 17 (s.fx.xPos.toInt / 65536) ∧
      t.port1.rdData = s.readByte t.port1.addr) ∧
    (∃ t, exec (.wrData0 v) s = .next t ∧ t.fx = s.fx ∧ t.port1 = s.port1) ∧
    (∃ t, exec (.wrData1 v) s = .next t ∧ t.fx = s.fx ∧ t.port0 = s.port0 ∧
      (s.mode4 = false → s.hop16 = false →
        t.port1.addr = s.port1.addr + BitVec.ofInt 17 (stepOf s.port1.inc)))

/-- R222, R223, R237: the two span registers read the packed span length (right minus left, by floor, clamped
to 0 to 1023) and change nothing; and the law: in polygon mode with left increment 0 and right increment 1.0
a read of port 0 raises the span length by exactly 1 until it reaches 1023 (from an edge pair in order whose
right edge does not overflow). -/
def Obligations.SpanLength : Prop :=
  (∀ (s : State) (n : Nat), spanValue s = n →
    exec .rdFxPolyFillL s = .next
      { s with
        result := .byte (BitVec.ofNat 8
          (if s.mode4 then
            (if 8 ≤ n then 128 else 0) + s.fx.xPos.toNat / 65536 % 4 * 32 +
              s.fx.xPos.toNat / 32768 % 2 * 16 + n % 8 * 2
          else (if 16 ≤ n then 128 else 0) + s.fx.xPos.toNat / 65536 % 4 * 32 + n % 16 * 2)) } ∧
    exec .rdFxPolyFillH s = .next { s with result := .byte (BitVec.ofNat 8 (n / 8 % 128 * 2)) }) ∧
  ∀ s : State, s.a1Mode = 2 → s.fx.xInc = 0 → s.fx.yInc = 0x10000 →
    s.fx.xPos.toInt / 65536 ≤ s.fx.yPos.toInt / 65536 → s.fx.yPos.toInt + 65536 < 2147483648 →
    ∃ t, exec .rdData0 s = .next t ∧ spanValue t = min (spanValue s + 1) 1023

/-- R238, R239: in affine mode a read of port 1 steps both positions, then sets port 1's address to the texel
the tile-map lookup finds, its cache to the byte there and, in 4-bit mode, its nibble select; port 1's writes
and all accesses to port 0 act as in mode 0, so they step nothing, and port 0's leave port 1 alone. -/
def Obligations.AffineReads : Prop :=
  ∀ (s : State) (v : Byte), s.a1Mode = 3 →
    (∀ x y : Fixed, x = s.fx.xPos + s.fx.xInc → y = s.fx.yPos + s.fx.yInc →
      ∃ t, exec .rdData1 s = .next t ∧ t.fx.xPos = x ∧ t.fx.yPos = y ∧
        t.port1.addr = BitVec.ofNat 17 (affineTexel s x y) ∧
        t.port1.rdData = s.readByte t.port1.addr ∧
        (s.mode4 = true → t.port1.nib = decide (x.toNat / 65536 % 2 = 1)) ∧
        (s.mode4 = false → t.port1.nib = s.port1.nib)) ∧
    actsAsDirect .rdData0 s ∧ actsAsDirect (.wrData0 v) s ∧ actsAsDirect (.wrData1 v) s ∧
    (∃ t, exec .rdData0 s = .next t ∧ t.fx.xPos = s.fx.xPos ∧ t.fx.yPos = s.fx.yPos ∧ t.port1 = s.port1) ∧
    (∃ t, exec (.wrData0 v) s = .next t ∧ t.fx = s.fx ∧ t.port1 = s.port1) ∧
    (∃ t, exec (.wrData1 v) s = .next t ∧ t.fx = s.fx)

/-! ## FX stores, cache and multiplier -/

/-- R242: the single-byte store. The byte written (or, cycling, the cache byte at the index) is stored whole,
or in 4-bit mode its nibble by the nibble select, unless TRANSP skips a zero one; every other byte is
unchanged and the audio event is emitted only by a store not skipped. -/
def Obligations.SingleByteStores : Prop :=
  ∀ (p : PortId) (s : State) (v b : Byte) (q : Port), s.cacheWr = false → s.port p = q →
    b = (if s.cacheCyc then s.fx.cache[s.fx.cByte.toNat]'s.fx.cByte.isLt else v) →
    ∃ t, exec (p.writeOp v) s = .next t ∧
      t.readByte q.addr = storedByte s q.nib (s.readByte q.addr) b ∧
      (∀ a, a ≠ q.addr → t.readByte a = s.readByte a) ∧
      (storeSkipped s q.nib b → t.events = s.events) ∧
      (¬ storeSkipped s q.nib b →
        t.events = s.events ++ storeEvents q.addr (storedByte s q.nib (s.readByte q.addr) b))

/-- R249, R250: with CACHE_WR, a data write stores into each byte `k` of the aligned group of four the nibbles
that mask `k` of the byte written (and TRANSP) does not protect, from the cycling byte, the multiplier or the
cache, in ascending order (the order of the audio events; a byte wholly protected emits none); no other byte
changes, and neither the accumulator nor the cache does; the port advances by its own step (outside line draw,
nibble and hop stepping not acting). -/
def Obligations.CacheWrites : Prop :=
  ∀ (p : PortId) (s : State) (v : Byte), s.cacheWr = true →
    ∃ t, exec (p.writeOp v) s = .next t ∧
      (∀ (k : Fin 4) (a : VAddr), a.toNat = (s.port p).addr.toNat / 4 * 4 + k.val →
        (highProtected s (cacheWriteSource s k) (v.toNat / 4 ^ k.val % 4) →
          (t.readByte a).toNat / 16 = (s.readByte a).toNat / 16) ∧
        (¬ highProtected s (cacheWriteSource s k) (v.toNat / 4 ^ k.val % 4) →
          (t.readByte a).toNat / 16 = (cacheWriteSource s k).toNat / 16) ∧
        (lowProtected s (cacheWriteSource s k) (v.toNat / 4 ^ k.val % 4) →
          (t.readByte a).toNat % 16 = (s.readByte a).toNat % 16) ∧
        (¬ lowProtected s (cacheWriteSource s k) (v.toNat / 4 ^ k.val % 4) →
          (t.readByte a).toNat % 16 = (cacheWriteSource s k).toNat % 16)) ∧
      (∀ a, a.toNat / 4 ≠ (s.port p).addr.toNat / 4 → t.readByte a = s.readByte a) ∧
      t.fx.acc = s.fx.acc ∧ t.fx.cache = s.fx.cache ∧
      (∀ emitted : Fin 4 → List Event,
        (∀ (k : Fin 4) (a : VAddr), a.toNat = (s.port p).addr.toNat / 4 * 4 + k.val →
          (highProtected s (cacheWriteSource s k) (v.toNat / 4 ^ k.val % 4) ∧
              lowProtected s (cacheWriteSource s k) (v.toNat / 4 ^ k.val % 4) → emitted k = []) ∧
          (¬ (highProtected s (cacheWriteSource s k) (v.toNat / 4 ^ k.val % 4) ∧
              lowProtected s (cacheWriteSource s k) (v.toNat / 4 ^ k.val % 4)) →
            emitted k = storeEvents a (t.readByte a))) →
        t.events = s.events ++ emitted 0 ++ emitted 1 ++ emitted 2 ++ emitted 3) ∧
      (s.a1Mode ≠ 1 → s.mode4 = false → s.hop16 = false →
        (t.port p).addr = (s.port p).addr + BitVec.ofInt 17 (stepOf (s.port p).inc))

/-- R246: with CACHE_FILL, a data read puts the byte it returns into the cache at the index and advances the
index (by nibbles in 4-bit mode, within a pair with CACHE_INC2); so four 8-bit reads from index 0 load the
whole cache with the bytes they return and leave the index at 0. -/
def Obligations.CacheFills : Prop :=
  ∀ (p : PortId) (s : State) (r old : Byte) (i : BitVec 2), s.cacheFill = true → (s.port p).rdData = r →
    s.fx.cByte = i → s.fx.cache[i.toNat]'i.isLt = old →
    (∃ t, exec p.readOp s = .next t ∧
      (s.mode4 = false → t.fx.cache = s.fx.cache.set i.toNat r i.isLt ∧ t.fx.cNib = s.fx.cNib ∧
        t.fx.cByte.toNat =
          if s.cacheInc2 then i.toNat / 2 * 2 + (i.toNat + 1) % 2 else (i.toNat + 1) % 4) ∧
      (s.mode4 = true → s.fx.cNib = false →
        t.fx.cache = s.fx.cache.set i.toNat (BitVec.ofNat 8 (r.toNat / 16 * 16 + old.toNat % 16)) i.isLt ∧
        t.fx.cNib = true ∧ t.fx.cByte = i) ∧
      (s.mode4 = true → s.fx.cNib = true →
        t.fx.cache = s.fx.cache.set i.toNat (BitVec.ofNat 8 (old.toNat / 16 * 16 + r.toNat % 16)) i.isLt ∧
        t.fx.cNib = false ∧ t.fx.cByte = i + 1)) ∧
    (s.mode4 = false → s.cacheInc2 = false → i = 0 →
      ∃ t1 t2 t3 t4, exec p.readOp s = .next t1 ∧ exec p.readOp t1 = .next t2 ∧
        exec p.readOp t2 = .next t3 ∧ exec p.readOp t3 = .next t4 ∧ t4.fx.cByte = 0 ∧
        t1.result = .byte t4.fx.cache[0] ∧ t2.result = .byte t4.fx.cache[1] ∧
        t3.result = .byte t4.fx.cache[2] ∧ t4.result = .byte t4.fx.cache[3])

/-- R206, R224, R225, R251: FX_MULT loads the cache indices, accumulates with its own SUBTRACT bit and then resets;
a read of slot 24 zeroes the accumulator, a read of slot 25 accumulates with the stored SUBTRACT bit; each
read returns its version byte, and the debug read of that slot returns the same byte and changes nothing. The
product of the two signed 16-bit operands is exact; -32768 squared is 0x40000000. -/
def Obligations.AccumulatorOperations : Prop :=
  ∀ (s : State) (v : Byte),
    exec (.wrFxMult v) s = .next
      { s with
        comp := s.comp.set 11 v
        fx := { s.fx with
          cByte := BitVec.ofNat 2 (v.toNat / 4)
          cNib := decide (v.toNat / 2 % 2 = 1)
          acc :=
            if 128 ≤ v.toNat then 0
            else if 64 ≤ v.toNat then accumulatedValue (decide (v.toNat / 32 % 2 = 1)) s
            else s.fx.acc }
        result := .nothing } ∧
    exec .rdFxAccumReset s = .next
      { s with fx := { s.fx with acc := 0 }, result := .byte s.cfg.versionBytes[0] } ∧
    exec .rdFxAccum s = .next
      { s with fx := { s.fx with acc := accumulatedValue (s.comp[11].getLsbD 5) s }
               result := .byte s.cfg.versionBytes[1] } ∧
    (s.dcsel = 6 →
      exec .drdComp9 s = .next { s with result := .byte s.cfg.versionBytes[0] } ∧
      exec .drdComp10 s = .next { s with result := .byte s.cfg.versionBytes[1] }) ∧
    (product s).toInt = operandA s * operandB s ∧
    (s.fx.cache = #v[0x00, 0x80, 0x00, 0x80] → product s = 0x40000000) ∧
    (s.fx.cache = #v[0x00, 0x80, 0xFF, 0x7F] → product s = 0xC0008000)

/-! ## Control, reset and interrupts -/

/-- R150, R151, R432: CTRL reads `DCSEL` and `ADDRSEL`; a write selects both, after a reset when its bit 7 is
set. -/
def Obligations.ControlRegister : Prop :=
  ∀ (s : State) (v : Byte),
    exec .rdCtrl s = .next
      { s with result := .byte (BitVec.ofNat 8 (s.dcsel.toNat * 2 + if s.addrSel = .port1 then 1 else 0)) } ∧
    (v.toNat < 128 →
      exec (.wrCtrl v) s = .next
        { s with dcsel := BitVec.ofNat 6 (v.toNat / 2)
                 addrSel := if v.toNat % 2 = 1 then .port1 else .port0
                 result := .nothing }) ∧
    (128 ≤ v.toNat →
      ∃ t, exec .hostReset s = .next t ∧
        exec (.wrCtrl v) s = .next
          { t with dcsel := BitVec.ofNat 6 (v.toNat / 2)
                   addrSel := if v.toNat % 2 = 1 then .port1 else .port0
                   result := .nothing })

/-- R430, R393, R33: RESET, and `WR CTRL, #0x80` alike, complete and leave every item of the spec's table at its
value (the state of power-on has the same values), emit no event and leave the parameters alone; the bytes the
spec leaves unspecified are not constrained. -/
def Obligations.ResetValues : Prop :=
  ∀ s : State,
    (∃ t, exec .hostReset s = .next t ∧ exec (.wrCtrl 0x80) s = .next t) ∧
    ∀ t : State, exec .hostReset s = .next t ∨ (s = State.reset ∧ t = State.reset) →
      (∀ a : VAddr, 0x1F9C0 ≤ a.toNat → a.toNat < 0x1FA00 → t.readByte a = 0) ∧
      (∀ a : VAddr, 0x1FC00 ≤ a.toNat → t.readByte a = 0) ∧
      (∀ (entries : List (BitVec 12)) (k : Nat) (entry : BitVec 12), s.cfg.defaultPalette = some entries →
        k < 256 → entries[k]? = some entry →
        (t.readByte (BitVec.ofNat 17 (0x1FA00 + 2 * k))).toNat = entry.toNat % 256 ∧
        (t.readByte (BitVec.ofNat 17 (0x1FA00 + 2 * k + 1))).toNat = entry.toNat / 256) ∧
      (∀ p, t.port p = ⟨0, 0, false, false, 0⟩) ∧ t.dcsel = 0 ∧ t.addrSel = .port0 ∧
      t.ien = 0 ∧ t.irqLine = 0 ∧ t.isr = ⟨false, false, false, 0⟩ ∧
      (∀ k : Fin 256, t.comp[k] =
        if k = 1 ∨ k = 2 then 128 else if k = 5 then 160 else if k = 7 then 240 else 0) ∧
      t.fx = ⟨0, 0, 0, 0, #v[0, 0, 0, 0], 0, false, 0, 0⟩ ∧
      t.layer0 = ⟨0, 0, 0, 0, 0, 0, 0⟩ ∧ t.layer1 = ⟨0, 0, 0, 0, 0, 0, 0⟩ ∧
      t.scan = ⟨0, 0, 0, 0, false⟩ ∧ t.collAcc = 0 ∧
      t.events = s.events ∧ t.cfg = s.cfg ∧ t.result = .nothing

/-- R152, R158, R160, R162, R390, R405: the interrupt registers read the enables, the status bits with the live
AFLOW input, and the active raster's line number modulo 512; `IRQ?` returns the OR over the four sources of
status and enable; none of them changes anything. -/
def Obligations.InterruptReads : Prop :=
  ∀ s : State,
    exec .rdIen s = .next
      { s with
        result := .byte (BitVec.ofNat 8
          (s.irqLine.toNat / 256 * 128 + scanlineValue s / 256 * 64 + s.ien.toNat)) } ∧
    exec .rdIsr s = .next
      { s with
        result := .byte (BitVec.ofNat 8
          (s.isr.coll.toNat * 16 + s.inputs.aflow.toNat * 8 + s.isr.sprCol.toNat * 4 +
            s.isr.line.toNat * 2 + s.isr.vsync.toNat)) } ∧
    exec .rdScanlineL s = .next { s with result := .byte (BitVec.ofNat 8 (scanlineValue s % 256)) } ∧
    exec .hostIrqQuery s = .next
      { s with
        result := .flag
          (s.ien.getLsbD 0 && s.isr.vsync || s.ien.getLsbD 1 && s.isr.line ||
            s.ien.getLsbD 2 && s.isr.sprCol || s.ien.getLsbD 3 && s.inputs.aflow) }

/-- R153, R159, R161: writes of the interrupt registers: the enables and bit 8 of the compare value, its low
byte, and the write-one-to-clear of the three status bits; nothing else changes. -/
def Obligations.InterruptWrites : Prop :=
  ∀ (s : State) (v : Byte),
    exec (.wrIen v) s = .next
      { s with irqLine := BitVec.ofNat 9 (s.irqLine.toNat % 256 + v.toNat / 128 * 256)
               ien := BitVec.ofNat 4 (v.toNat % 16)
               result := .nothing } ∧
    exec (.wrIrqlineL v) s = .next
      { s with irqLine := BitVec.ofNat 9 (s.irqLine.toNat / 256 * 256 + v.toNat), result := .nothing } ∧
    exec (.wrIsr v) s = .next
      { s with
        isr := { vsync := if v.toNat % 2 = 1 then false else s.isr.vsync
                 line := if v.toNat / 2 % 2 = 1 then false else s.isr.line
                 sprCol := if v.toNat / 4 % 2 = 1 then false else s.isr.sprCol
                 coll := s.isr.coll }
        result := .nothing }

/-! ## Composer slots -/

/-- R181, R183, R185, R187, R191, R193, R195, R197: slots 0 to 7 read their byte, slot 0 with FIELD in bit 7;
nothing changes. -/
def Obligations.DisplayControlReads : Prop :=
  ∀ s : State,
    exec .rdDcVideo s = .next
      { s with result := .byte (BitVec.ofNat 8 (s.scan.field.toNat * 128 + s.comp[0].toNat % 128)) } ∧
    exec .rdDcHscale s = .next { s with result := .byte s.comp[1] } ∧
    exec .rdDcVscale s = .next { s with result := .byte s.comp[2] } ∧
    exec .rdDcBorder s = .next { s with result := .byte s.comp[3] } ∧
    exec .rdDcHstart s = .next { s with result := .byte s.comp[4] } ∧
    exec .rdDcHstop s = .next { s with result := .byte s.comp[5] } ∧
    exec .rdDcVstart s = .next { s with result := .byte s.comp[6] } ∧
    exec .rdDcVstop s = .next { s with result := .byte s.comp[7] }

/-- R182, R184, R186, R188, R192, R194, R196, R198: a write of slots 1 to 7 stores the byte, a write of slot 0
its low seven bits under FIELD; nothing else changes. -/
def Obligations.DisplayControlWrites : Prop :=
  ∀ (s : State) (v : Byte),
    exec (.wrDcVideo v) s = .next
      { s with comp := s.comp.set 0 (BitVec.ofNat 8 (s.scan.field.toNat * 128 + v.toNat % 128))
               result := .nothing } ∧
    exec (.wrDcHscale v) s = .next { s with comp := s.comp.set 1 v, result := .nothing } ∧
    exec (.wrDcVscale v) s = .next { s with comp := s.comp.set 2 v, result := .nothing } ∧
    exec (.wrDcBorder v) s = .next { s with comp := s.comp.set 3 v, result := .nothing } ∧
    exec (.wrDcHstart v) s = .next { s with comp := s.comp.set 4 v, result := .nothing } ∧
    exec (.wrDcHstop v) s = .next { s with comp := s.comp.set 5 v, result := .nothing } ∧
    exec (.wrDcVstart v) s = .next { s with comp := s.comp.set 6 v, result := .nothing } ∧
    exec (.wrDcVstop v) s = .next { s with comp := s.comp.set 7 v, result := .nothing }

/-- R189, R190, R203: a write of an undefined slot stores its byte in the composer file and changes nothing
else; reads of undefined slots and of write-only FX slots return the version byte of the index and change
nothing. -/
def Obligations.UndefinedAndWriteOnlySlots : Prop :=
  ∀ (s : State) (bank : BitVec 6) (v : Byte) (i : Instr), 7 ≤ bank.toNat →
    (∀ k : Nat, (k = 0 ∧ i = .wrUndef0 bank v) ∨ (k = 1 ∧ i = .wrUndef1 bank v) ∨
        (k = 2 ∧ i = .wrUndef2 bank v) ∨ (k = 3 ∧ i = .wrUndef3 bank v) →
      ∃ t, exec i s = .next t ∧ t = { s with comp := t.comp, result := .nothing } ∧
        ∀ j : Fin 256, t.comp[j] = if j.val = bank.toNat * 4 + k then v else s.comp[j]) ∧
    (i = .rdUndef0 bank ∨ i = .rdFxXIncrL ∨ i = .rdFxXPosL ∨ i = .rdFxXPosS →
      exec i s = .next { s with result := .byte s.cfg.versionBytes[0] }) ∧
    (i = .rdUndef1 bank ∨ i = .rdFxTilebase ∨ i = .rdFxXIncrH ∨ i = .rdFxXPosH ∨ i = .rdFxYPosS →
      exec i s = .next { s with result := .byte s.cfg.versionBytes[1] }) ∧
    (i = .rdUndef2 bank ∨ i = .rdFxMapbase ∨ i = .rdFxYIncrL ∨ i = .rdFxYPosL ∨ i = .rdFxCacheH →
      exec i s = .next { s with result := .byte s.cfg.versionBytes[2] }) ∧
    (i = .rdUndef3 bank ∨ i = .rdFxMult ∨ i = .rdFxYIncrH ∨ i = .rdFxYPosH ∨ i = .rdFxCacheU →
      exec i s = .next { s with result := .byte s.cfg.versionBytes[3] })

/-- R201, R202, R204, R205, R220, R221, R226 to R229: FX_CTRL reads its byte; the FX slots whose write has no
further effect store it, and the fields of FX_CTRL, FX_TILEBASE and FX_MAPBASE are those of their bytes; the
cache slots also load their cache byte. -/
def Obligations.FxRegisterBytes : Prop :=
  ∀ (s : State) (v : Byte),
    exec .rdFxCtrl s = .next { s with result := .byte s.comp[8] } ∧
    (∃ t, exec (.wrFxCtrl v) s = .next t ∧ t = { s with comp := s.comp.set 8 v, result := .nothing } ∧
      t.transp = decide (128 ≤ v.toNat) ∧ t.cacheWr = decide (v.toNat / 64 % 2 = 1) ∧
      t.cacheFill = decide (v.toNat / 32 % 2 = 1) ∧ t.cacheCyc = decide (v.toNat / 16 % 2 = 1) ∧
      t.hop16 = decide (v.toNat / 8 % 2 = 1) ∧ t.mode4 = decide (v.toNat / 4 % 2 = 1) ∧
      t.a1Mode.toNat = v.toNat % 4) ∧
    (∃ t, exec (.wrFxTilebase v) s = .next t ∧ t = { s with comp := s.comp.set 9 v, result := .nothing } ∧
      affineBase t.comp[9] = v.toNat / 4 * 2048 ∧ t.affClip = decide (v.toNat / 2 % 2 = 1)) ∧
    (∃ t, exec (.wrFxMapbase v) s = .next t ∧ t = { s with comp := s.comp.set 10 v, result := .nothing } ∧
      affineBase t.comp[10] = v.toNat / 4 * 2048 ∧ affineMapSize t.comp[10] = 2 * 4 ^ (v.toNat % 4)) ∧
    exec (.wrFxPolyFillL v) s = .next { s with comp := s.comp.set 22 v, result := .nothing } ∧
    exec (.wrFxPolyFillH v) s = .next { s with comp := s.comp.set 23 v, result := .nothing } ∧
    exec (.wrFxCacheL v) s = .next
      { s with comp := s.comp.set 24 v, fx := { s.fx with cache := s.fx.cache.set 0 v }, result := .nothing } ∧
    exec (.wrFxCacheM v) s = .next
      { s with comp := s.comp.set 25 v, fx := { s.fx with cache := s.fx.cache.set 1 v }, result := .nothing } ∧
    exec (.wrFxCacheH v) s = .next
      { s with comp := s.comp.set 26 v, fx := { s.fx with cache := s.fx.cache.set 2 v }, result := .nothing } ∧
    exec (.wrFxCacheU v) s = .next
      { s with comp := s.comp.set 27 v, fx := { s.fx with cache := s.fx.cache.set 3 v }, result := .nothing }

/-- R208 to R212: a write of an increment byte stores it and sets the increment to the integer of R212 the two
bytes spell. -/
def Obligations.IncrementRegisters : Prop :=
  ∀ (s : State) (v : Byte) (inc : Fixed),
    (inc.toInt = incrementValue s.comp[13] v →
      exec (.wrFxXIncrL v) s = .next
        { s with comp := s.comp.set 12 v, fx := { s.fx with xInc := inc }, result := .nothing }) ∧
    (inc.toInt = incrementValue v s.comp[12] →
      exec (.wrFxXIncrH v) s = .next
        { s with comp := s.comp.set 13 v, fx := { s.fx with xInc := inc }, result := .nothing }) ∧
    (inc.toInt = incrementValue s.comp[15] v →
      exec (.wrFxYIncrL v) s = .next
        { s with comp := s.comp.set 14 v, fx := { s.fx with yInc := inc }, result := .nothing }) ∧
    (inc.toInt = incrementValue v s.comp[14] →
      exec (.wrFxYIncrH v) s = .next
        { s with comp := s.comp.set 15 v, fx := { s.fx with yInc := inc }, result := .nothing })

/-- R214 to R219: a write of a position byte stores it and replaces its part of the position, clearing bits
31:27 and 6:0. -/
def Obligations.PositionRegisters : Prop :=
  ∀ (s : State) (v : Byte) (old : Nat) (low high sub : Fixed),
    low.toNat = old / 2 ^ 24 % 8 * 2 ^ 24 + v.toNat * 2 ^ 16 + old / 2 ^ 7 % 512 * 2 ^ 7 →
    high.toNat = v.toNat % 8 * 2 ^ 24 + old / 2 ^ 8 % 65536 * 2 ^ 8 + v.toNat / 128 * 2 ^ 7 →
    sub.toNat = old / 2 ^ 16 % 2048 * 2 ^ 16 + v.toNat * 2 ^ 8 + old / 2 ^ 7 % 2 * 2 ^ 7 →
    (s.fx.xPos.toNat = old →
      exec (.wrFxXPosL v) s = .next
        { s with comp := s.comp.set 16 v, fx := { s.fx with xPos := low }, result := .nothing } ∧
      exec (.wrFxXPosH v) s = .next
        { s with comp := s.comp.set 17 v, fx := { s.fx with xPos := high }, result := .nothing } ∧
      exec (.wrFxXPosS v) s = .next
        { s with comp := s.comp.set 20 v, fx := { s.fx with xPos := sub }, result := .nothing }) ∧
    (s.fx.yPos.toNat = old →
      exec (.wrFxYPosL v) s = .next
        { s with comp := s.comp.set 18 v, fx := { s.fx with yPos := low }, result := .nothing } ∧
      exec (.wrFxYPosH v) s = .next
        { s with comp := s.comp.set 19 v, fx := { s.fx with yPos := high }, result := .nothing } ∧
      exec (.wrFxYPosS v) s = .next
        { s with comp := s.comp.set 21 v, fx := { s.fx with yPos := sub }, result := .nothing })

/-! ## Layers -/

/-- R282 to R287, R296 to R301: CONFIG, MAPBASE and TILEBASE of both layers are raw bytes, read back whole,
and a write changes nothing else; the fields of layer 0 are those of its bytes. -/
def Obligations.LayerShapeRegisters : Prop :=
  ∀ (s : State) (v : Byte),
    exec .rdL0Config s = .next { s with result := .byte s.layer0.config } ∧
    exec .rdL0Mapbase s = .next { s with result := .byte s.layer0.mapBase } ∧
    exec .rdL0Tilebase s = .next { s with result := .byte s.layer0.tileBase } ∧
    exec .rdL1Config s = .next { s with result := .byte s.layer1.config } ∧
    exec .rdL1Mapbase s = .next { s with result := .byte s.layer1.mapBase } ∧
    exec .rdL1Tilebase s = .next { s with result := .byte s.layer1.tileBase } ∧
    (∀ r : LayerRegs, r = { s.layer0 with config := v } →
      exec (.wrL0Config v) s = .next { s with layer0 := r, result := .nothing } ∧
      r.mapHLog2 = 5 + v.toNat / 64 ∧ r.mapWLog2 = 5 + v.toNat / 16 % 4 ∧
      r.t256c = decide (v.toNat / 8 % 2 = 1) ∧ r.bitmap = decide (v.toNat / 4 % 2 = 1) ∧
      r.depth = v.toNat % 4) ∧
    (∀ r : LayerRegs, r = { s.layer0 with mapBase := v } →
      exec (.wrL0Mapbase v) s = .next { s with layer0 := r, result := .nothing } ∧
      r.mapAddr = v.toNat * 512) ∧
    (∀ r : LayerRegs, r = { s.layer0 with tileBase := v } →
      exec (.wrL0Tilebase v) s = .next { s with layer0 := r, result := .nothing } ∧
      r.tileAddr = v.toNat / 4 * 2048 ∧ 2 ^ r.tileHLog2 = (if v.toNat / 2 % 2 = 1 then 16 else 8) ∧
      2 ^ r.tileWLog2 = (if v.toNat % 2 = 1 then 16 else 8)) ∧
    exec (.wrL1Config v) s = .next { s with layer1 := { s.layer1 with config := v }, result := .nothing } ∧
    exec (.wrL1Mapbase v) s = .next { s with layer1 := { s.layer1 with mapBase := v }, result := .nothing } ∧
    exec (.wrL1Tilebase v) s = .next { s with layer1 := { s.layer1 with tileBase := v }, result := .nothing }

/-- R288 to R291, R302 to R305: the horizontal scroll bytes of both layers are raw, and a write changes
nothing else; layer 0's HSCROLL is assembled from its two bytes. -/
def Obligations.LayerHorizontalScrollRegisters : Prop :=
  ∀ (s : State) (v : Byte),
    exec .rdL0HscrollL s = .next { s with result := .byte s.layer0.hscrollL } ∧
    exec .rdL0HscrollH s = .next { s with result := .byte s.layer0.hscrollH } ∧
    exec .rdL1HscrollL s = .next { s with result := .byte s.layer1.hscrollL } ∧
    exec .rdL1HscrollH s = .next { s with result := .byte s.layer1.hscrollH } ∧
    (∀ r : LayerRegs, r = { s.layer0 with hscrollL := v } →
      exec (.wrL0HscrollL v) s = .next { s with layer0 := r, result := .nothing } ∧
      r.hscroll = s.layer0.hscrollH.toNat % 16 * 256 + v.toNat) ∧
    (∀ r : LayerRegs, r = { s.layer0 with hscrollH := v } →
      exec (.wrL0HscrollH v) s = .next { s with layer0 := r, result := .nothing } ∧
      r.hscroll = v.toNat % 16 * 256 + s.layer0.hscrollL.toNat ∧
      r.bitmapPalOffset.toNat = v.toNat % 16) ∧
    exec (.wrL1HscrollL v) s = .next
      { s with layer1 := { s.layer1 with hscrollL := v }, result := .nothing } ∧
    exec (.wrL1HscrollH v) s = .next
      { s with layer1 := { s.layer1 with hscrollH := v }, result := .nothing }

/-- R292 to R295, R306 to R309: the vertical scroll bytes of both layers are raw, and a write changes nothing
else; layer 0's VSCROLL is assembled from its two bytes. -/
def Obligations.LayerVerticalScrollRegisters : Prop :=
  ∀ (s : State) (v : Byte),
    exec .rdL0VscrollL s = .next { s with result := .byte s.layer0.vscrollL } ∧
    exec .rdL0VscrollH s = .next { s with result := .byte s.layer0.vscrollH } ∧
    exec .rdL1VscrollL s = .next { s with result := .byte s.layer1.vscrollL } ∧
    exec .rdL1VscrollH s = .next { s with result := .byte s.layer1.vscrollH } ∧
    (∀ r : LayerRegs, r = { s.layer0 with vscrollL := v } →
      exec (.wrL0VscrollL v) s = .next { s with layer0 := r, result := .nothing } ∧
      r.vscroll = s.layer0.vscrollH.toNat % 16 * 256 + v.toNat) ∧
    (∀ r : LayerRegs, r = { s.layer0 with vscrollH := v } →
      exec (.wrL0VscrollH v) s = .next { s with layer0 := r, result := .nothing } ∧
      r.vscroll = v.toNat % 16 * 256 + s.layer0.vscrollL.toNat) ∧
    exec (.wrL1VscrollL v) s = .next
      { s with layer1 := { s.layer1 with vscrollL := v }, result := .nothing } ∧
    exec (.wrL1VscrollH v) s = .next
      { s with layer1 := { s.layer1 with vscrollH := v }, result := .nothing }

/-! ## Forwarded registers, debug reads and host calls -/

/-- R381 to R384: the audio and SPI registers return what the collaborator returns now, and writes emit their
event; no device state changes. -/
def Obligations.ForwardedRegisters : Prop :=
  ∀ (s : State) (v : Byte),
    exec .rdAudioCtrl s = .next { s with result := .byte s.inputs.audioReg[0] } ∧
    exec .rdAudioRate s = .next { s with result := .byte s.inputs.audioReg[1] } ∧
    exec .rdAudioData s = .next { s with result := .byte s.inputs.audioReg[2] } ∧
    exec .rdSpiData s = .next { s with result := .byte s.inputs.spi[0] } ∧
    exec .rdSpiCtrl s = .next { s with result := .byte s.inputs.spi[1] } ∧
    exec (.wrAudioCtrl v) s = .next { s with events := s.events ++ [.audioRegWrite 0 v], result := .nothing } ∧
    exec (.wrAudioRate v) s = .next { s with events := s.events ++ [.audioRegWrite 1 v], result := .nothing } ∧
    exec (.wrAudioData v) s = .next { s with events := s.events ++ [.audioRegWrite 2 v], result := .nothing } ∧
    exec (.wrSpiData v) s = .next { s with events := s.events ++ [.spiWrite 0 v], result := .nothing } ∧
    exec (.wrSpiCtrl v) s = .next { s with events := s.events ++ [.spiWrite 1 v], result := .nothing }

/-- R388: a debug read returns the byte the READ of its index would return (of the slot DCSEL selects, for
indices 9 to 12; the cached byte, for the data windows), changes no state and emits nothing. -/
def Obligations.DebugReadsReturnTheReadByte : Prop :=
  ∀ s : State,
    (∀ pair ∈ debugPairs, ∃ b, exec pair.2 s = .next { s with result := .byte b } ∧
      exec pair.1 s = .next { s with result := .byte b }) ∧
    (∀ pair ∈ debugComposerReads, ∃ b t, exec (decodeRead s.dcsel pair.2) s = .next t ∧ t.result = .byte b ∧
      exec pair.1 s = .next { s with result := .byte b }) ∧
    exec .drdData0 s = .next { s with result := .byte s.port0.rdData } ∧
    exec .drdData1 s = .next { s with result := .byte s.port1.rdData }

/-- R389 and R392. FB returns the 1,228,800 bytes of the framebuffer in order: those of a line rendered since
the last reset are the line's, the others are not constrained. DUMP returns 132,878 bytes: VRAM, the composer
file with FIELD in bit 7 of byte 0, the palette bytes, both layers' registers and the sprite table, each at its
offset. Neither changes anything. -/
def Obligations.FramebufferAndDumpCalls : Prop :=
  ∀ s : State,
    (∃ bytes, exec .hostFramebuffer s = .next { s with result := .bytes bytes } ∧ bytes.length = 1228800 ∧
      ∀ y row k, FrameLines.get s.fb y = some row → row.length = 2560 → y < 480 → k < 2560 →
        bytes[2560 * y + k]? = row[k]?) ∧
    ∃ bytes, exec .hostDump s = .next { s with result := .bytes bytes } ∧ bytes.length = 132878 ∧
      (∀ k < 131072, bytes[k]? = some (s.readByte (BitVec.ofNat 17 k))) ∧
      bytes[131072]? = some (BitVec.ofNat 8 (s.scan.field.toNat * 128 + s.comp[0].toNat % 128)) ∧
      (∀ k : Fin 256, 0 < k.val → bytes[131072 + k.val]? = some s.comp[k]) ∧
      (∀ k < 512, bytes[131328 + k]? = some (s.readByte (BitVec.ofNat 17 (0x1FA00 + k)))) ∧
      (bytes.drop 131840).take 14 =
        [s.layer0.config, s.layer0.mapBase, s.layer0.tileBase, s.layer0.hscrollL, s.layer0.hscrollH,
          s.layer0.vscrollL, s.layer0.vscrollH, s.layer1.config, s.layer1.mapBase, s.layer1.tileBase,
          s.layer1.hscrollL, s.layer1.hscrollH, s.layer1.vscrollL, s.layer1.vscrollH] ∧
      (∀ k < 1024, bytes[131854 + k]? = some (s.readByte (BitVec.ofNat 17 (0x1FC00 + k))))

/-! ## Scan timing and rendering -/

/-- R351: STEP n performs n ticks and returns whether one of them executed FrameBoundary; STEP 0 does nothing
and returns false; STEP a then STEP b leaves the state of STEP (a + b); and STEP writes at most the scan
counters with FIELD, the interrupt status, COLL_ACC and FB. -/
def Obligations.StepPerformsTicks : Prop :=
  (∀ (n : Nat) (s : State), exec (.hostStep n) s = .next
    { afterTicks n s with result := .flag (decide (0 < countTicks tickEndsFrame n s)) }) ∧
  (∀ s : State, exec (.hostStep 0) s = .next { s with result := .flag false }) ∧
  (∀ (a b : Nat) (s : State), ∃ t u w, exec (.hostStep a) s = .next t ∧ exec (.hostStep b) t = .next u ∧
    exec (.hostStep (a + b)) s = .next w ∧ u = { w with result := u.result }) ∧
  (∀ (n : Nat) (s t : State), exec (.hostStep n) s = .next t →
    t = { s with scan := t.scan, isr := t.isr, collAcc := t.collAcc, fb := t.fb, result := t.result })

/-- R43, R354, R355: both rasters run freely: n ticks move the VGA position by n modulo 800 * 525 and the NTSC
position by n modulo NTSC_HALF_W * 1050, whichever is active. -/
def Obligations.RastersRunFreely : Prop :=
  ∀ (s : State) (n : Nat), s.Inv →
    (afterTicks n s).scan.vgaY * 800 + (afterTicks n s).scan.vgaX =
      (s.scan.vgaY * 800 + s.scan.vgaX + n) % 420000 ∧
    (afterTicks n s).scan.ntscY * s.cfg.ntscHalfW + (afterTicks n s).scan.ntscX =
      (s.scan.ntscY * s.cfg.ntscHalfW + s.scan.ntscX + n) % (s.cfg.ntscHalfW * 1050)

/-- The one-frame law, which the spec derives from R354 and R361 ("420,000 consecutive ticks execute
`FrameBoundary()` exactly once"): with the VGA raster active, one frame's worth of ticks executes
FrameBoundary exactly once (so STEP returns true), and sets ISR_LINE at exactly one tick if the compare value is
at most 479, at none otherwise. -/
def Obligations.OneFrameLaw : Prop :=
  ∀ s : State, s.scan.vgaX < 800 → s.scan.vgaY < 525 → s.ntscActive = false →
    countTicks tickEndsFrame 420000 s = 1 ∧
    countTicks tickRaisesLine 420000 s = (if s.irqLine.toNat ≤ 479 then 1 else 0) ∧
    ∃ t, exec (.hostStep 420000) s = .next t ∧ t.result = .flag true ∧ t.isr.vsync = true ∧
      (s.irqLine.toNat ≤ 479 → t.isr.line = true)

/-- R352 to R354, R360, R361, R406, R318, with the VGA raster active: the tick that wraps the raster sets VSYNC,
latches the collision accumulator, raises SPRCOL if it is not 0 and clears it, then compares line 0, and renders
nothing; a tick that ends another line renders that line, into FB and COLL_ACC, compares the new line and leaves
VSYNC, SPRCOL and the nibble alone; a tick that ends no line of this raster leaves the interrupt status,
COLL_ACC and FB as they were. -/
def Obligations.VgaLineEnds : Prop :=
  ∀ s : State, s.ntscActive = false →
    (s.scan.vgaX = 799 → s.scan.vgaY = 524 →
      (tick s).2 = true ∧ (tick s).1.collAcc = 0 ∧ (tick s).1.fb = s.fb ∧
      (tick s).1.isr = { vsync := true, line := s.isr.line || decide (s.irqLine.toNat = 0)
                         sprCol := s.isr.sprCol || decide (s.collAcc ≠ 0), coll := s.collAcc }) ∧
    (s.scan.vgaX = 799 → s.scan.vgaY < 524 →
      (tick s).2 = false ∧ (tick s).1.fb = (renderLine s.scan.vgaY s).fb ∧
      (tick s).1.collAcc = (renderLine s.scan.vgaY s).collAcc ∧
      (tick s).1.isr = { s.isr with
        line := s.isr.line || decide (s.scan.vgaY + 1 < 480 ∧ s.irqLine.toNat = s.scan.vgaY + 1) }) ∧
    (s.scan.vgaX ≠ 799 →
      (tick s).2 = false ∧ (tick s).1.fb = s.fb ∧ (tick s).1.collAcc = s.collAcc ∧ (tick s).1.isr = s.isr)

/-- R352, R353, R355, R360, R361, R318, with the NTSC raster active; for the default field offsets 42 and 568 of R8:
the tick that ends half-line `y` renders its output line, even lines in the low field and odd ones in the high
field, into FB and COLL_ACC; it executes FrameBoundary exactly at the end of each field, which flips FIELD and
renders nothing; and any other half-line's end compares the new line with the compare value's bit 0 forced to
the field. Whatever the offsets, a tick that ends no half-line leaves the interrupt status, COLL_ACC and FB as
they were. -/
def Obligations.NtscHalfLineEnds : Prop :=
  ∀ (s : State) (y : Nat), s.ntscActive = true → s.scan.ntscY = y →
    (s.scan.ntscX + 1 = s.cfg.ntscHalfW → y < 1050 → s.cfg.ntscYOffLow = 42 → s.cfg.ntscYOffHigh = 568 →
      (∀ rendered : State,
        rendered =
          (if 42 ≤ y ∧ y < 522 ∧ y % 2 = 0 then renderLine (y - 42) s
          else if 568 ≤ y ∧ y < 1048 ∧ y % 2 = 0 then renderLine (y - 568 + 1) s
          else s) →
        (tick s).1.fb = rendered.fb ∧
        (y ≠ 524 → y ≠ 1049 → (tick s).1.collAcc = rendered.collAcc)) ∧
      (y = 524 ∨ y = 1049 →
        (tick s).2 = true ∧ (tick s).1.fb = s.fb ∧ (tick s).1.collAcc = 0 ∧
        (tick s).1.scan.field = decide (y = 524) ∧
        (tick s).1.isr = { vsync := true, line := s.isr.line
                           sprCol := s.isr.sprCol || decide (s.collAcc ≠ 0), coll := s.collAcc }) ∧
      (y ≠ 524 → y ≠ 1049 →
        (tick s).2 = false ∧ (tick s).1.scan.field = s.scan.field ∧
        (tick s).1.isr = { s.isr with
          line := s.isr.line ||
            decide (y + 1 < 522 ∧ y + 1 = 42 + s.irqLine.toNat / 2 * 2 ∨
              y + 1 < 1048 ∧ y + 1 = 568 + (s.irqLine.toNat / 2 * 2 + 1)) })) ∧
    (s.scan.ntscX + 1 ≠ s.cfg.ntscHalfW →
      (tick s).2 = false ∧ (tick s).1.fb = s.fb ∧ (tick s).1.collAcc = s.collAcc ∧ (tick s).1.isr = s.isr)

/-- R391: `SKIP?` returns SKIP_IN; with SKIP_IN 1 a STEP leaves the framebuffer alone and does everything else
as with SKIP_IN 0. -/
def Obligations.SkipFrame : Prop :=
  ∀ (s : State) (n : Nat),
    exec .hostSkipQuery s = .next { s with result := .flag s.inputs.skip } ∧
    ∃ t u, exec (.hostStep n) { s with inputs := { s.inputs with skip := false } } = .next t ∧
      exec (.hostStep n) { s with inputs := { s.inputs with skip := true } } = .next u ∧
      u.fb = s.fb ∧ { t with fb := u.fb, inputs := u.inputs } = u

/-- R330, R335, R336, R342: what a line render puts at each pixel: DISABLED_COLOR in output mode 0, the
border colour outside the active area, else the merge of the sprite pixel and the two enabled layers' pixels
at the scaled position; four bytes B, G, R, 0xFF; other lines are untouched, only FB and COLL_ACC are written,
COLL_ACC by the sprite line of a line in the vertical range alone, and lines from 480 on render nothing. -/
def Obligations.RenderedPixels : Prop :=
  ∀ (s : State) (y x : Nat) (rgb : Rgb), y < 480 → x < 640 → s.inputs.skip = false →
    (s.outMode = 0 → rgb = rgbOfNumber s.cfg.disabledColor) →
    (s.outMode ≠ 0 →
      ¬ (s.comp[4].toNat * 4 ≤ x ∧ x < s.comp[5].toNat * 4 ∧
        s.comp[6].toNat * 2 ≤ y ∧ y < s.comp[7].toNat * 2) →
      rgb = paletteRgb s s.comp[3]) →
    (s.outMode ≠ 0 → s.comp[4].toNat * 4 ≤ x → x < s.comp[5].toNat * 4 →
      s.comp[6].toNat * 2 ≤ y → y < s.comp[7].toNat * 2 →
      ∀ (lx sy : Nat) (sp : SpritePixel), lx = s.comp[1].toNat * (x - s.comp[4].toNat * 4) / 128 →
        sy = s.comp[2].toNat * (y - s.comp[6].toNat * 2) / 128 → sp = (spriteLine s sy).row.getD x {} →
        rgb = paletteRgb s (merge sp.z sp.col
          (if s.comp[0].getLsbD 4 then layerPixel s s.layer0 lx sy else 0)
          (if s.comp[0].getLsbD 5 then layerPixel s s.layer1 lx sy else 0))) →
    (renderLine y s).fbByte (4 * (640 * y + x)) = rgb.b ∧
    (renderLine y s).fbByte (4 * (640 * y + x) + 1) = rgb.g ∧
    (renderLine y s).fbByte (4 * (640 * y + x) + 2) = rgb.r ∧
    (renderLine y s).fbByte (4 * (640 * y + x) + 3) = 0xFF ∧
    (∀ k, k / 2560 ≠ y → (renderLine y s).fbByte k = s.fbByte k) ∧
    (∃ t, t = renderLine y s ∧ t = { s with fb := t.fb, collAcc := t.collAcc } ∧
      t.collAcc =
        if s.outMode ≠ 0 ∧ s.comp[6].toNat * 2 ≤ y ∧ y < s.comp[7].toNat * 2 then
          (spriteLine s (s.comp[2].toNat * (y - s.comp[6].toNat * 2) / 128)).coll
        else s.collAcc) ∧
    (∀ z, 480 ≤ z → renderLine z s = s)

/-- R337, R341, R48, R340 and R343: the merge shows the frontmost colour that is not 0, of z-3 sprites, layer 1,
z-2 sprites, layer 0 and z-1 sprites, and 0 where there is none. Palette entry `i` is the low 12 bits of the two
bytes at 0x1FA00 + 2i, low byte first, red, green and blue from the top nibble down, each nibble doubled; with
CHROMA_DIS and the NTSC raster both selected the entry is first greyed, by the default formula or by the
instance's own function; so every palette colour has each channel's low nibble equal to its high nibble. -/
def Obligations.MergeAndPalette : Prop :=
  (∀ (z : BitVec 2) (spr c0 c1 : Byte) (front : List Byte),
    front = [if z = 3 then spr else 0, c1, if z = 2 then spr else 0, c0, if z = 1 then spr else 0] →
    merge z spr c0 c1 = (front.find? fun col => col != 0).getD 0) ∧
  (∀ (s : State) (i : Byte) (r g b : Nat), r < 16 → g < 16 → b < 16 →
    r * 256 + g * 16 + b =
      ((s.readByte (BitVec.ofNat 17 (0x1FA00 + 2 * i.toNat + 1))).toNat * 256 +
        (s.readByte (BitVec.ofNat 17 (0x1FA00 + 2 * i.toNat))).toNat) % 4096 →
    (s.comp[0].toNat / 4 % 2 = 0 ∨ s.comp[0].toNat / 2 % 2 = 0 →
      paletteRgb s i = ⟨BitVec.ofNat 8 (r * 17), BitVec.ofNat 8 (g * 17), BitVec.ofNat 8 (b * 17)⟩) ∧
    (s.comp[0].toNat / 4 % 2 = 1 → s.comp[0].toNat / 2 % 2 = 1 →
      (s.cfg.grey = .weighted →
        ∀ m : Byte, m.toNat = (r + b + 2 * g) / 4 * 17 → paletteRgb s i = ⟨m, m, m⟩) ∧
      ∀ (entries : List (BitVec 12)) (r' g' b' : Nat), s.cfg.grey = .table entries →
        r' < 16 → g' < 16 → b' < 16 →
        entries[r * 256 + g * 16 + b]? = some (BitVec.ofNat 12 (r' * 256 + g' * 16 + b')) →
        paletteRgb s i = ⟨BitVec.ofNat 8 (r' * 17), BitVec.ofNat 8 (g' * 17), BitVec.ofNat 8 (b' * 17)⟩)) ∧
  ∀ (s : State) (i : Byte),
    (paletteRgb s i).r.toNat / 16 = (paletteRgb s i).r.toNat % 16 ∧
    (paletteRgb s i).g.toNat / 16 = (paletteRgb s i).g.toNat % 16 ∧
    (paletteRgb s i).b.toNat / 16 = (paletteRgb s i).b.toNat % 16

/-- R310, R312, R313 and R49: a sprite line starts with an empty row, the whole budget and the collision bits so
far, and visits the 128 records in order (with SPR_EN clear it visits none). A record examined costs one unit;
the line ends where that leaves none. A hidden sprite, or one whose rows exclude the line, changes nothing more;
any other draws its row and the loop goes on unless the line has ended there. Last clause, the hidden-sprite
invariant R317, which the spec derives from R312 ("A sprite whose z-depth is 0 never appears in sprite-line
output regardless of other fields"): with a hidden sprite's other fields replaced the line's work is the
same. -/
def Obligations.HiddenSpritesDoNotShow : Prop :=
  (∀ (s : State) (sy : Nat) (start : SpriteWork) (table : List Sprite),
    start = ⟨s.cfg.spriteLineBudget, s.collAcc, List.replicate 640 ⟨0, 0, 0⟩, false⟩ →
    table.length = 128 →
    (∀ n < 128, table[n]? =
      some (spriteOf fun k => s.readByte (BitVec.ofNat 17 (0x1FC00 + 8 * n + k)))) →
    (s.comp[0].toNat / 64 % 2 = 0 → spriteLine s sy = start) ∧
    (s.comp[0].toNat / 64 % 2 = 1 →
      spriteLine s sy =
        spriteLoop s.vram ⟨sy, s.comp[1], s.comp[4].toNat * 4, s.comp[5].toNat * 4⟩ table start)) ∧
  (∀ (vram : Nat → Byte) (view : LineView) (sp : Sprite) (rest : List Sprite) (w paid : SpriteWork),
    paid = { w with budget := w.budget - 1, stopped := decide (w.budget ≤ 1) } →
    spriteLoop vram view [] w = w ∧
    (w.budget ≤ 1 → spriteLoop vram view (sp :: rest) w = paid) ∧
    (1 < w.budget → sp.z = 0 ∨ (view.sy : Int) < sp.y ∨ sp.y + sp.h ≤ (view.sy : Int) →
      spriteLoop vram view (sp :: rest) w = spriteLoop vram view rest paid) ∧
    (1 < w.budget → sp.z ≠ 0 → sp.y ≤ (view.sy : Int) → (view.sy : Int) < sp.y + sp.h →
      ∀ drawn, drawn = renderSpriteRow vram view sp paid →
        spriteLoop vram view (sp :: rest) w =
          if drawn.stopped then drawn else spriteLoop vram view rest drawn)) ∧
  ∀ (vram : Nat → Byte) (view : LineView) (before after : List Sprite) (hidden other : Sprite)
    (w : SpriteWork), hidden.z = 0 → other.z = 0 →
    spriteLoop vram view (before ++ hidden :: after) w = spriteLoop vram view (before ++ other :: after) w

/-- R311, R314, R315, and the tie rule the spec derives from R315 (R316). A sprite's geometry is that of its eight
bytes. Its row is unpacked from its data, the high nibble first at 4 bits a pixel, and walked over the columns of
the active area on the screen: a column outside the sprite costs nothing; one inside costs four units where it
enters a new group of four source pixels and then one unit, the line ending, with the work not done, where a
charge leaves none; and draws the pixel, mirrored under H-flip. A pixel of colour 0 draws nothing; any other
raises the collision bits it shares with the masks already there, adds its own, and takes the pixel only
from a strictly lower z-depth, so that of two sprites of equal z-depth the one drawn first stays. -/
def Obligations.SpritePixelRule : Prop :=
  (∀ (b : Nat → Byte) (sp : Sprite) (x10 y10 : Nat), sp = spriteOf b →
    x10 = (b 3).toNat % 4 * 256 + (b 2).toNat → y10 = (b 5).toNat % 4 * 256 + (b 4).toNat →
    sp.data = ((b 1).toNat % 16 * 256 + (b 0).toNat) * 32 ∧ sp.mode8 = decide (128 ≤ (b 1).toNat) ∧
    sp.w = 8 * 2 ^ ((b 7).toNat / 16 % 4) ∧ sp.h = 8 * 2 ^ ((b 7).toNat / 64) ∧
    sp.x = (if 1024 ≤ x10 + sp.w then (x10 : Int) - 1024 else x10) ∧
    sp.y = (if 1024 ≤ y10 + sp.h then (y10 : Int) - 1024 else y10) ∧
    sp.hflip = decide ((b 6).toNat % 2 = 1) ∧ sp.vflip = decide ((b 6).toNat / 2 % 2 = 1) ∧
    sp.z.toNat = (b 6).toNat / 4 % 4 ∧ sp.mask.toNat = (b 6).toNat / 16 ∧ sp.palOff.toNat = (b 7).toNat % 16) ∧
  (∀ (vram : Nat → Byte) (view : LineView) (sp : Sprite) (w : SpriteWork) (u : List Byte) (r row : Nat),
    (r : Int) = view.sy - sp.y → u.length = sp.w →
    row = sp.data + (if sp.vflip then sp.h - 1 - r else r) * (if sp.mode8 then sp.w else sp.w / 2) →
    (∀ i < sp.w, u[i]? = some
      (if sp.mode8 then vram (row + i)
      else BitVec.ofNat 8
        (if i % 2 = 0 then (vram (row + i / 2)).toNat / 16 else (vram (row + i / 2)).toNat % 16))) →
    renderSpriteRow vram view sp w =
      walkRow view sp u (List.range' view.hstart (min view.hstop 640 - view.hstart)) none w) ∧
  (∀ (view : LineView) (sp : Sprite) (u : List Byte) (ox lx : Nat) (rest : List Nat) (group : Option Nat)
    (w : SpriteWork), w.stopped = false → lx = view.hscale.toNat * (ox - view.hstart) / 128 →
    walkRow view sp u [] group w = w ∧
    ((lx : Int) < sp.x ∨ sp.x + sp.w ≤ lx →
      walkRow view sp u (ox :: rest) group w = walkRow view sp u rest group w) ∧
    ∀ i fetch : Nat, (lx : Int) = sp.x + i → i < sp.w → fetch = (if group = some (i / 4) then 0 else 4) →
      (fetch = 4 → w.budget ≤ 4 →
        walkRow view sp u (ox :: rest) group w = { w with budget := w.budget - 4, stopped := true }) ∧
      (fetch = 0 ∨ 4 < w.budget → w.budget - fetch ≤ 1 →
        walkRow view sp u (ox :: rest) group w = { w with budget := w.budget - fetch - 1, stopped := true }) ∧
      (1 < w.budget - fetch →
        walkRow view sp u (ox :: rest) group w =
          walkRow view sp u rest (some (i / 4))
            (drawSpritePixel sp ox (u.getD (if sp.hflip then sp.w - 1 - i else i) 0)
              { w with budget := w.budget - fetch - 1 }))) ∧
  ∀ (sp : Sprite) (ox : Nat) (col : Byte) (w : SpriteWork) (old : SpritePixel), w.row[ox]? = some old →
    (col = 0 → drawSpritePixel sp ox col w = w) ∧
    (col ≠ 0 →
      (drawSpritePixel sp ox col w).coll = w.coll ||| (old.mask &&& sp.mask) ∧
      (drawSpritePixel sp ox col w).budget = w.budget ∧ (drawSpritePixel sp ox col w).stopped = w.stopped ∧
      ∃ new, (drawSpritePixel sp ox col w).row[ox]? = some new ∧ new.mask = old.mask ||| sp.mask ∧
        (sp.z ≤ old.z → new.col = old.col ∧ new.z = old.z) ∧
        (old.z < sp.z → new.col = palOffset col sp.palOff ∧ new.z = sp.z)) ∧
    (∀ j, j ≠ ox → (drawSpritePixel sp ox col w).row[j]? = w.row[j]?)

/-- R273 to R280: the colour of a layer at a logical position. Without BITMAP the position is scrolled modulo the
map's size and its map entry found; at depth code 0 (text) the glyph's bit selects the foreground or the
background, otherwise (tile) the entry's tile, flipped, gives a packed pixel and the entry its palette offset.
With BITMAP the position, scrolled or not by the parameter, is taken modulo the bitmap's size and the layer gives
the palette offset. The `x`-th pixel of a packed byte is taken most significant first; a palette offset is added
only to colours 1 to 15. -/
def Obligations.PixelExtraction : Prop :=
  (∀ (s : State) (r : LayerRegs) (sx sy ex ey : Nat) (b0 b1 : Byte), r.config.toNat / 4 % 2 = 0 →
    ex = (sx + layerScrollX r) % (layerMapW r * layerTileW r) →
    ey = (sy + layerScrollY r) % (layerMapH r * layerTileH r) →
    b0 = s.readByte (BitVec.ofNat 17 (layerCell r ex ey)) →
    b1 = s.readByte (BitVec.ofNat 17 (layerCell r ex ey + 1)) →
    (r.config.toNat % 4 = 0 → ∀ glyphByte : Byte,
      glyphByte = s.readByte
        (BitVec.ofNat 17 (layerGlyph r b0.toNat (ex % layerTileW r) (ey % layerTileH r))) →
      layerPixel s r sx sy =
        if glyphByte.toNat / 2 ^ (7 - ex % 8) % 2 = 1 then
          (if r.config.toNat / 8 % 2 = 1 then b1 else BitVec.ofNat 8 (b1.toNat % 16))
        else (if r.config.toNat / 8 % 2 = 1 then 0 else BitVec.ofNat 8 (b1.toNat / 16))) ∧
    (r.config.toNat % 4 ≠ 0 → ∀ xx yy : Nat,
      xx = (if b1.toNat / 4 % 2 = 1 then layerTileW r - 1 - ex % layerTileW r else ex % layerTileW r) →
      yy = (if b1.toNat / 8 % 2 = 1 then layerTileH r - 1 - ey % layerTileH r else ey % layerTileH r) →
      layerPixel s r sx sy =
        palOffset
          (extractPixel (layerBits r)
            (s.readByte (BitVec.ofNat 17 (layerTexel r (b1.toNat % 4 * 256 + b0.toNat) xx yy))) xx)
          (BitVec.ofNat 4 (b1.toNat / 16)))) ∧
  (∀ (s : State) (r : LayerRegs) (sx sy ex ey dx dy : Nat), r.config.toNat / 4 % 2 = 1 →
    (s.cfg.bitmapScroll = .honored → dx = layerScrollX r ∧ dy = layerScrollY r) →
    (s.cfg.bitmapScroll = .ignored → dx = 0 ∧ dy = 0) →
    ex = (sx + dx) % layerBitmapW r → ey = (sy + dy) % 480 →
    layerPixel s r sx sy =
      palOffset
        (extractPixel (layerBits r)
          (s.readByte (BitVec.ofNat 17
            (r.tileBase.toNat / 4 * 2048 + (ey * layerBitmapW r + ex) * layerBits r / 8))) ex)
        (BitVec.ofNat 4 (r.hscrollH.toNat % 16))) ∧
  (∀ (d : Fin 4) (b : Byte) (x : Nat),
    (extractPixel (2 ^ d.val) b x).toNat =
      b.toNat / 2 ^ (8 - 2 ^ d.val - x % (8 / 2 ^ d.val) * 2 ^ d.val) % 2 ^ 2 ^ d.val) ∧
  ∀ (col : Byte) (off : BitVec 4),
    (palOffset col off).toNat =
      if 0 < col.toNat ∧ col.toNat < 16 then off.toNat * 16 + col.toNat else col.toNat
end

