-- ==== Sys2Proof/Laws/State.lean ====
section
/-! SUPPORT. Laws.State: one lemma per field per one-field update of the state, all true by `rfl`, so that
no later proof unfolds an update. -/

namespace Sys2Proof.Machine

variable (s : State)

/-! ## `State.setMem` -/

@[simp] theorem State.setMem_mem (m : List Host.Cell) : (s.setMem m).mem = m := rfl
@[simp] theorem State.setMem_port0 (m : List Host.Cell) : (s.setMem m).port0 = s.port0 := rfl
@[simp] theorem State.setMem_port1 (m : List Host.Cell) : (s.setMem m).port1 = s.port1 := rfl
@[simp] theorem State.setMem_dcsel (m : List Host.Cell) : (s.setMem m).dcsel = s.dcsel := rfl
@[simp] theorem State.setMem_addrSel (m : List Host.Cell) : (s.setMem m).addrSel = s.addrSel := rfl
@[simp] theorem State.setMem_ien (m : List Host.Cell) : (s.setMem m).ien = s.ien := rfl
@[simp] theorem State.setMem_irqLine (m : List Host.Cell) : (s.setMem m).irqLine = s.irqLine := rfl
@[simp] theorem State.setMem_isr (m : List Host.Cell) : (s.setMem m).isr = s.isr := rfl
@[simp] theorem State.setMem_comp (m : List Host.Cell) : (s.setMem m).comp = s.comp := rfl
@[simp] theorem State.setMem_fx (m : List Host.Cell) : (s.setMem m).fx = s.fx := rfl
@[simp] theorem State.setMem_layer0 (m : List Host.Cell) : (s.setMem m).layer0 = s.layer0 := rfl
@[simp] theorem State.setMem_layer1 (m : List Host.Cell) : (s.setMem m).layer1 = s.layer1 := rfl
@[simp] theorem State.setMem_scan (m : List Host.Cell) : (s.setMem m).scan = s.scan := rfl
@[simp] theorem State.setMem_collAcc (m : List Host.Cell) : (s.setMem m).collAcc = s.collAcc := rfl
@[simp] theorem State.setMem_fb (m : List Host.Cell) : (s.setMem m).fb = s.fb := rfl
@[simp] theorem State.setMem_cfg (m : List Host.Cell) : (s.setMem m).cfg = s.cfg := rfl
@[simp] theorem State.setMem_epoch (m : List Host.Cell) : (s.setMem m).epoch = s.epoch := rfl
@[simp] theorem State.setMem_inputs (m : List Host.Cell) : (s.setMem m).inputs = s.inputs := rfl
@[simp] theorem State.setMem_queue (m : List Host.Cell) : (s.setMem m).queue = s.queue := rfl
@[simp] theorem State.setMem_events (m : List Host.Cell) : (s.setMem m).events = s.events := rfl
@[simp] theorem State.setMem_result (m : List Host.Cell) : (s.setMem m).result = s.result := rfl

/-! ## `State.setCtrl` -/

@[simp] theorem State.setCtrl_mem (d : BitVec 6) (p : PortId) : (s.setCtrl d p).mem = s.mem := rfl
@[simp] theorem State.setCtrl_port0 (d : BitVec 6) (p : PortId) : (s.setCtrl d p).port0 = s.port0 := rfl
@[simp] theorem State.setCtrl_port1 (d : BitVec 6) (p : PortId) : (s.setCtrl d p).port1 = s.port1 := rfl
@[simp] theorem State.setCtrl_dcsel (d : BitVec 6) (p : PortId) : (s.setCtrl d p).dcsel = d := rfl
@[simp] theorem State.setCtrl_addrSel (d : BitVec 6) (p : PortId) : (s.setCtrl d p).addrSel = p := rfl
@[simp] theorem State.setCtrl_ien (d : BitVec 6) (p : PortId) : (s.setCtrl d p).ien = s.ien := rfl
@[simp] theorem State.setCtrl_irqLine (d : BitVec 6) (p : PortId) : (s.setCtrl d p).irqLine = s.irqLine := rfl
@[simp] theorem State.setCtrl_isr (d : BitVec 6) (p : PortId) : (s.setCtrl d p).isr = s.isr := rfl
@[simp] theorem State.setCtrl_comp (d : BitVec 6) (p : PortId) : (s.setCtrl d p).comp = s.comp := rfl
@[simp] theorem State.setCtrl_fx (d : BitVec 6) (p : PortId) : (s.setCtrl d p).fx = s.fx := rfl
@[simp] theorem State.setCtrl_layer0 (d : BitVec 6) (p : PortId) : (s.setCtrl d p).layer0 = s.layer0 := rfl
@[simp] theorem State.setCtrl_layer1 (d : BitVec 6) (p : PortId) : (s.setCtrl d p).layer1 = s.layer1 := rfl
@[simp] theorem State.setCtrl_scan (d : BitVec 6) (p : PortId) : (s.setCtrl d p).scan = s.scan := rfl
@[simp] theorem State.setCtrl_collAcc (d : BitVec 6) (p : PortId) : (s.setCtrl d p).collAcc = s.collAcc := rfl
@[simp] theorem State.setCtrl_fb (d : BitVec 6) (p : PortId) : (s.setCtrl d p).fb = s.fb := rfl
@[simp] theorem State.setCtrl_cfg (d : BitVec 6) (p : PortId) : (s.setCtrl d p).cfg = s.cfg := rfl
@[simp] theorem State.setCtrl_epoch (d : BitVec 6) (p : PortId) : (s.setCtrl d p).epoch = s.epoch := rfl
@[simp] theorem State.setCtrl_inputs (d : BitVec 6) (p : PortId) : (s.setCtrl d p).inputs = s.inputs := rfl
@[simp] theorem State.setCtrl_queue (d : BitVec 6) (p : PortId) : (s.setCtrl d p).queue = s.queue := rfl
@[simp] theorem State.setCtrl_events (d : BitVec 6) (p : PortId) : (s.setCtrl d p).events = s.events := rfl
@[simp] theorem State.setCtrl_result (d : BitVec 6) (p : PortId) : (s.setCtrl d p).result = s.result := rfl

/-! ## `State.setIen` -/

@[simp] theorem State.setIen_mem (x : BitVec 4) : (s.setIen x).mem = s.mem := rfl
@[simp] theorem State.setIen_port0 (x : BitVec 4) : (s.setIen x).port0 = s.port0 := rfl
@[simp] theorem State.setIen_port1 (x : BitVec 4) : (s.setIen x).port1 = s.port1 := rfl
@[simp] theorem State.setIen_dcsel (x : BitVec 4) : (s.setIen x).dcsel = s.dcsel := rfl
@[simp] theorem State.setIen_addrSel (x : BitVec 4) : (s.setIen x).addrSel = s.addrSel := rfl
@[simp] theorem State.setIen_ien (x : BitVec 4) : (s.setIen x).ien = x := rfl
@[simp] theorem State.setIen_irqLine (x : BitVec 4) : (s.setIen x).irqLine = s.irqLine := rfl
@[simp] theorem State.setIen_isr (x : BitVec 4) : (s.setIen x).isr = s.isr := rfl
@[simp] theorem State.setIen_comp (x : BitVec 4) : (s.setIen x).comp = s.comp := rfl
@[simp] theorem State.setIen_fx (x : BitVec 4) : (s.setIen x).fx = s.fx := rfl
@[simp] theorem State.setIen_layer0 (x : BitVec 4) : (s.setIen x).layer0 = s.layer0 := rfl
@[simp] theorem State.setIen_layer1 (x : BitVec 4) : (s.setIen x).layer1 = s.layer1 := rfl
@[simp] theorem State.setIen_scan (x : BitVec 4) : (s.setIen x).scan = s.scan := rfl
@[simp] theorem State.setIen_collAcc (x : BitVec 4) : (s.setIen x).collAcc = s.collAcc := rfl
@[simp] theorem State.setIen_fb (x : BitVec 4) : (s.setIen x).fb = s.fb := rfl
@[simp] theorem State.setIen_cfg (x : BitVec 4) : (s.setIen x).cfg = s.cfg := rfl
@[simp] theorem State.setIen_epoch (x : BitVec 4) : (s.setIen x).epoch = s.epoch := rfl
@[simp] theorem State.setIen_inputs (x : BitVec 4) : (s.setIen x).inputs = s.inputs := rfl
@[simp] theorem State.setIen_queue (x : BitVec 4) : (s.setIen x).queue = s.queue := rfl
@[simp] theorem State.setIen_events (x : BitVec 4) : (s.setIen x).events = s.events := rfl
@[simp] theorem State.setIen_result (x : BitVec 4) : (s.setIen x).result = s.result := rfl

/-! ## `State.setIrqLine` -/

@[simp] theorem State.setIrqLine_mem (x : BitVec 9) : (s.setIrqLine x).mem = s.mem := rfl
@[simp] theorem State.setIrqLine_port0 (x : BitVec 9) : (s.setIrqLine x).port0 = s.port0 := rfl
@[simp] theorem State.setIrqLine_port1 (x : BitVec 9) : (s.setIrqLine x).port1 = s.port1 := rfl
@[simp] theorem State.setIrqLine_dcsel (x : BitVec 9) : (s.setIrqLine x).dcsel = s.dcsel := rfl
@[simp] theorem State.setIrqLine_addrSel (x : BitVec 9) : (s.setIrqLine x).addrSel = s.addrSel := rfl
@[simp] theorem State.setIrqLine_ien (x : BitVec 9) : (s.setIrqLine x).ien = s.ien := rfl
@[simp] theorem State.setIrqLine_irqLine (x : BitVec 9) : (s.setIrqLine x).irqLine = x := rfl
@[simp] theorem State.setIrqLine_isr (x : BitVec 9) : (s.setIrqLine x).isr = s.isr := rfl
@[simp] theorem State.setIrqLine_comp (x : BitVec 9) : (s.setIrqLine x).comp = s.comp := rfl
@[simp] theorem State.setIrqLine_fx (x : BitVec 9) : (s.setIrqLine x).fx = s.fx := rfl
@[simp] theorem State.setIrqLine_layer0 (x : BitVec 9) : (s.setIrqLine x).layer0 = s.layer0 := rfl
@[simp] theorem State.setIrqLine_layer1 (x : BitVec 9) : (s.setIrqLine x).layer1 = s.layer1 := rfl
@[simp] theorem State.setIrqLine_scan (x : BitVec 9) : (s.setIrqLine x).scan = s.scan := rfl
@[simp] theorem State.setIrqLine_collAcc (x : BitVec 9) : (s.setIrqLine x).collAcc = s.collAcc := rfl
@[simp] theorem State.setIrqLine_fb (x : BitVec 9) : (s.setIrqLine x).fb = s.fb := rfl
@[simp] theorem State.setIrqLine_cfg (x : BitVec 9) : (s.setIrqLine x).cfg = s.cfg := rfl
@[simp] theorem State.setIrqLine_epoch (x : BitVec 9) : (s.setIrqLine x).epoch = s.epoch := rfl
@[simp] theorem State.setIrqLine_inputs (x : BitVec 9) : (s.setIrqLine x).inputs = s.inputs := rfl
@[simp] theorem State.setIrqLine_queue (x : BitVec 9) : (s.setIrqLine x).queue = s.queue := rfl
@[simp] theorem State.setIrqLine_events (x : BitVec 9) : (s.setIrqLine x).events = s.events := rfl
@[simp] theorem State.setIrqLine_result (x : BitVec 9) : (s.setIrqLine x).result = s.result := rfl

/-! ## `State.setIsr` -/

@[simp] theorem State.setIsr_mem (x : IntStatus) : (s.setIsr x).mem = s.mem := rfl
@[simp] theorem State.setIsr_port0 (x : IntStatus) : (s.setIsr x).port0 = s.port0 := rfl
@[simp] theorem State.setIsr_port1 (x : IntStatus) : (s.setIsr x).port1 = s.port1 := rfl
@[simp] theorem State.setIsr_dcsel (x : IntStatus) : (s.setIsr x).dcsel = s.dcsel := rfl
@[simp] theorem State.setIsr_addrSel (x : IntStatus) : (s.setIsr x).addrSel = s.addrSel := rfl
@[simp] theorem State.setIsr_ien (x : IntStatus) : (s.setIsr x).ien = s.ien := rfl
@[simp] theorem State.setIsr_irqLine (x : IntStatus) : (s.setIsr x).irqLine = s.irqLine := rfl
@[simp] theorem State.setIsr_isr (x : IntStatus) : (s.setIsr x).isr = x := rfl
@[simp] theorem State.setIsr_comp (x : IntStatus) : (s.setIsr x).comp = s.comp := rfl
@[simp] theorem State.setIsr_fx (x : IntStatus) : (s.setIsr x).fx = s.fx := rfl
@[simp] theorem State.setIsr_layer0 (x : IntStatus) : (s.setIsr x).layer0 = s.layer0 := rfl
@[simp] theorem State.setIsr_layer1 (x : IntStatus) : (s.setIsr x).layer1 = s.layer1 := rfl
@[simp] theorem State.setIsr_scan (x : IntStatus) : (s.setIsr x).scan = s.scan := rfl
@[simp] theorem State.setIsr_collAcc (x : IntStatus) : (s.setIsr x).collAcc = s.collAcc := rfl
@[simp] theorem State.setIsr_fb (x : IntStatus) : (s.setIsr x).fb = s.fb := rfl
@[simp] theorem State.setIsr_cfg (x : IntStatus) : (s.setIsr x).cfg = s.cfg := rfl
@[simp] theorem State.setIsr_epoch (x : IntStatus) : (s.setIsr x).epoch = s.epoch := rfl
@[simp] theorem State.setIsr_inputs (x : IntStatus) : (s.setIsr x).inputs = s.inputs := rfl
@[simp] theorem State.setIsr_queue (x : IntStatus) : (s.setIsr x).queue = s.queue := rfl
@[simp] theorem State.setIsr_events (x : IntStatus) : (s.setIsr x).events = s.events := rfl
@[simp] theorem State.setIsr_result (x : IntStatus) : (s.setIsr x).result = s.result := rfl

/-! ## `State.setComp` -/

@[simp] theorem State.setComp_mem (x : Vector Byte 256) : (s.setComp x).mem = s.mem := rfl
@[simp] theorem State.setComp_port0 (x : Vector Byte 256) : (s.setComp x).port0 = s.port0 := rfl
@[simp] theorem State.setComp_port1 (x : Vector Byte 256) : (s.setComp x).port1 = s.port1 := rfl
@[simp] theorem State.setComp_dcsel (x : Vector Byte 256) : (s.setComp x).dcsel = s.dcsel := rfl
@[simp] theorem State.setComp_addrSel (x : Vector Byte 256) : (s.setComp x).addrSel = s.addrSel := rfl
@[simp] theorem State.setComp_ien (x : Vector Byte 256) : (s.setComp x).ien = s.ien := rfl
@[simp] theorem State.setComp_irqLine (x : Vector Byte 256) : (s.setComp x).irqLine = s.irqLine := rfl
@[simp] theorem State.setComp_isr (x : Vector Byte 256) : (s.setComp x).isr = s.isr := rfl
@[simp] theorem State.setComp_comp (x : Vector Byte 256) : (s.setComp x).comp = x := rfl
@[simp] theorem State.setComp_fx (x : Vector Byte 256) : (s.setComp x).fx = s.fx := rfl
@[simp] theorem State.setComp_layer0 (x : Vector Byte 256) : (s.setComp x).layer0 = s.layer0 := rfl
@[simp] theorem State.setComp_layer1 (x : Vector Byte 256) : (s.setComp x).layer1 = s.layer1 := rfl
@[simp] theorem State.setComp_scan (x : Vector Byte 256) : (s.setComp x).scan = s.scan := rfl
@[simp] theorem State.setComp_collAcc (x : Vector Byte 256) : (s.setComp x).collAcc = s.collAcc := rfl
@[simp] theorem State.setComp_fb (x : Vector Byte 256) : (s.setComp x).fb = s.fb := rfl
@[simp] theorem State.setComp_cfg (x : Vector Byte 256) : (s.setComp x).cfg = s.cfg := rfl
@[simp] theorem State.setComp_epoch (x : Vector Byte 256) : (s.setComp x).epoch = s.epoch := rfl
@[simp] theorem State.setComp_inputs (x : Vector Byte 256) : (s.setComp x).inputs = s.inputs := rfl
@[simp] theorem State.setComp_queue (x : Vector Byte 256) : (s.setComp x).queue = s.queue := rfl
@[simp] theorem State.setComp_events (x : Vector Byte 256) : (s.setComp x).events = s.events := rfl
@[simp] theorem State.setComp_result (x : Vector Byte 256) : (s.setComp x).result = s.result := rfl

/-! ## `State.setFx` -/

@[simp] theorem State.setFx_mem (x : Fx) : (s.setFx x).mem = s.mem := rfl
@[simp] theorem State.setFx_port0 (x : Fx) : (s.setFx x).port0 = s.port0 := rfl
@[simp] theorem State.setFx_port1 (x : Fx) : (s.setFx x).port1 = s.port1 := rfl
@[simp] theorem State.setFx_dcsel (x : Fx) : (s.setFx x).dcsel = s.dcsel := rfl
@[simp] theorem State.setFx_addrSel (x : Fx) : (s.setFx x).addrSel = s.addrSel := rfl
@[simp] theorem State.setFx_ien (x : Fx) : (s.setFx x).ien = s.ien := rfl
@[simp] theorem State.setFx_irqLine (x : Fx) : (s.setFx x).irqLine = s.irqLine := rfl
@[simp] theorem State.setFx_isr (x : Fx) : (s.setFx x).isr = s.isr := rfl
@[simp] theorem State.setFx_comp (x : Fx) : (s.setFx x).comp = s.comp := rfl
@[simp] theorem State.setFx_fx (x : Fx) : (s.setFx x).fx = x := rfl
@[simp] theorem State.setFx_layer0 (x : Fx) : (s.setFx x).layer0 = s.layer0 := rfl
@[simp] theorem State.setFx_layer1 (x : Fx) : (s.setFx x).layer1 = s.layer1 := rfl
@[simp] theorem State.setFx_scan (x : Fx) : (s.setFx x).scan = s.scan := rfl
@[simp] theorem State.setFx_collAcc (x : Fx) : (s.setFx x).collAcc = s.collAcc := rfl
@[simp] theorem State.setFx_fb (x : Fx) : (s.setFx x).fb = s.fb := rfl
@[simp] theorem State.setFx_cfg (x : Fx) : (s.setFx x).cfg = s.cfg := rfl
@[simp] theorem State.setFx_epoch (x : Fx) : (s.setFx x).epoch = s.epoch := rfl
@[simp] theorem State.setFx_inputs (x : Fx) : (s.setFx x).inputs = s.inputs := rfl
@[simp] theorem State.setFx_queue (x : Fx) : (s.setFx x).queue = s.queue := rfl
@[simp] theorem State.setFx_events (x : Fx) : (s.setFx x).events = s.events := rfl
@[simp] theorem State.setFx_result (x : Fx) : (s.setFx x).result = s.result := rfl

/-! ## `State.setLayer0` -/

@[simp] theorem State.setLayer0_mem (x : LayerRegs) : (s.setLayer0 x).mem = s.mem := rfl
@[simp] theorem State.setLayer0_port0 (x : LayerRegs) : (s.setLayer0 x).port0 = s.port0 := rfl
@[simp] theorem State.setLayer0_port1 (x : LayerRegs) : (s.setLayer0 x).port1 = s.port1 := rfl
@[simp] theorem State.setLayer0_dcsel (x : LayerRegs) : (s.setLayer0 x).dcsel = s.dcsel := rfl
@[simp] theorem State.setLayer0_addrSel (x : LayerRegs) : (s.setLayer0 x).addrSel = s.addrSel := rfl
@[simp] theorem State.setLayer0_ien (x : LayerRegs) : (s.setLayer0 x).ien = s.ien := rfl
@[simp] theorem State.setLayer0_irqLine (x : LayerRegs) : (s.setLayer0 x).irqLine = s.irqLine := rfl
@[simp] theorem State.setLayer0_isr (x : LayerRegs) : (s.setLayer0 x).isr = s.isr := rfl
@[simp] theorem State.setLayer0_comp (x : LayerRegs) : (s.setLayer0 x).comp = s.comp := rfl
@[simp] theorem State.setLayer0_fx (x : LayerRegs) : (s.setLayer0 x).fx = s.fx := rfl
@[simp] theorem State.setLayer0_layer0 (x : LayerRegs) : (s.setLayer0 x).layer0 = x := rfl
@[simp] theorem State.setLayer0_layer1 (x : LayerRegs) : (s.setLayer0 x).layer1 = s.layer1 := rfl
@[simp] theorem State.setLayer0_scan (x : LayerRegs) : (s.setLayer0 x).scan = s.scan := rfl
@[simp] theorem State.setLayer0_collAcc (x : LayerRegs) : (s.setLayer0 x).collAcc = s.collAcc := rfl
@[simp] theorem State.setLayer0_fb (x : LayerRegs) : (s.setLayer0 x).fb = s.fb := rfl
@[simp] theorem State.setLayer0_cfg (x : LayerRegs) : (s.setLayer0 x).cfg = s.cfg := rfl
@[simp] theorem State.setLayer0_epoch (x : LayerRegs) : (s.setLayer0 x).epoch = s.epoch := rfl
@[simp] theorem State.setLayer0_inputs (x : LayerRegs) : (s.setLayer0 x).inputs = s.inputs := rfl
@[simp] theorem State.setLayer0_queue (x : LayerRegs) : (s.setLayer0 x).queue = s.queue := rfl
@[simp] theorem State.setLayer0_events (x : LayerRegs) : (s.setLayer0 x).events = s.events := rfl
@[simp] theorem State.setLayer0_result (x : LayerRegs) : (s.setLayer0 x).result = s.result := rfl

/-! ## `State.setLayer1` -/

@[simp] theorem State.setLayer1_mem (x : LayerRegs) : (s.setLayer1 x).mem = s.mem := rfl
@[simp] theorem State.setLayer1_port0 (x : LayerRegs) : (s.setLayer1 x).port0 = s.port0 := rfl
@[simp] theorem State.setLayer1_port1 (x : LayerRegs) : (s.setLayer1 x).port1 = s.port1 := rfl
@[simp] theorem State.setLayer1_dcsel (x : LayerRegs) : (s.setLayer1 x).dcsel = s.dcsel := rfl
@[simp] theorem State.setLayer1_addrSel (x : LayerRegs) : (s.setLayer1 x).addrSel = s.addrSel := rfl
@[simp] theorem State.setLayer1_ien (x : LayerRegs) : (s.setLayer1 x).ien = s.ien := rfl
@[simp] theorem State.setLayer1_irqLine (x : LayerRegs) : (s.setLayer1 x).irqLine = s.irqLine := rfl
@[simp] theorem State.setLayer1_isr (x : LayerRegs) : (s.setLayer1 x).isr = s.isr := rfl
@[simp] theorem State.setLayer1_comp (x : LayerRegs) : (s.setLayer1 x).comp = s.comp := rfl
@[simp] theorem State.setLayer1_fx (x : LayerRegs) : (s.setLayer1 x).fx = s.fx := rfl
@[simp] theorem State.setLayer1_layer0 (x : LayerRegs) : (s.setLayer1 x).layer0 = s.layer0 := rfl
@[simp] theorem State.setLayer1_layer1 (x : LayerRegs) : (s.setLayer1 x).layer1 = x := rfl
@[simp] theorem State.setLayer1_scan (x : LayerRegs) : (s.setLayer1 x).scan = s.scan := rfl
@[simp] theorem State.setLayer1_collAcc (x : LayerRegs) : (s.setLayer1 x).collAcc = s.collAcc := rfl
@[simp] theorem State.setLayer1_fb (x : LayerRegs) : (s.setLayer1 x).fb = s.fb := rfl
@[simp] theorem State.setLayer1_cfg (x : LayerRegs) : (s.setLayer1 x).cfg = s.cfg := rfl
@[simp] theorem State.setLayer1_epoch (x : LayerRegs) : (s.setLayer1 x).epoch = s.epoch := rfl
@[simp] theorem State.setLayer1_inputs (x : LayerRegs) : (s.setLayer1 x).inputs = s.inputs := rfl
@[simp] theorem State.setLayer1_queue (x : LayerRegs) : (s.setLayer1 x).queue = s.queue := rfl
@[simp] theorem State.setLayer1_events (x : LayerRegs) : (s.setLayer1 x).events = s.events := rfl
@[simp] theorem State.setLayer1_result (x : LayerRegs) : (s.setLayer1 x).result = s.result := rfl

/-! ## `State.setScan` -/

@[simp] theorem State.setScan_mem (x : Scan) : (s.setScan x).mem = s.mem := rfl
@[simp] theorem State.setScan_port0 (x : Scan) : (s.setScan x).port0 = s.port0 := rfl
@[simp] theorem State.setScan_port1 (x : Scan) : (s.setScan x).port1 = s.port1 := rfl
@[simp] theorem State.setScan_dcsel (x : Scan) : (s.setScan x).dcsel = s.dcsel := rfl
@[simp] theorem State.setScan_addrSel (x : Scan) : (s.setScan x).addrSel = s.addrSel := rfl
@[simp] theorem State.setScan_ien (x : Scan) : (s.setScan x).ien = s.ien := rfl
@[simp] theorem State.setScan_irqLine (x : Scan) : (s.setScan x).irqLine = s.irqLine := rfl
@[simp] theorem State.setScan_isr (x : Scan) : (s.setScan x).isr = s.isr := rfl
@[simp] theorem State.setScan_comp (x : Scan) : (s.setScan x).comp = s.comp := rfl
@[simp] theorem State.setScan_fx (x : Scan) : (s.setScan x).fx = s.fx := rfl
@[simp] theorem State.setScan_layer0 (x : Scan) : (s.setScan x).layer0 = s.layer0 := rfl
@[simp] theorem State.setScan_layer1 (x : Scan) : (s.setScan x).layer1 = s.layer1 := rfl
@[simp] theorem State.setScan_scan (x : Scan) : (s.setScan x).scan = x := rfl
@[simp] theorem State.setScan_collAcc (x : Scan) : (s.setScan x).collAcc = s.collAcc := rfl
@[simp] theorem State.setScan_fb (x : Scan) : (s.setScan x).fb = s.fb := rfl
@[simp] theorem State.setScan_cfg (x : Scan) : (s.setScan x).cfg = s.cfg := rfl
@[simp] theorem State.setScan_epoch (x : Scan) : (s.setScan x).epoch = s.epoch := rfl
@[simp] theorem State.setScan_inputs (x : Scan) : (s.setScan x).inputs = s.inputs := rfl
@[simp] theorem State.setScan_queue (x : Scan) : (s.setScan x).queue = s.queue := rfl
@[simp] theorem State.setScan_events (x : Scan) : (s.setScan x).events = s.events := rfl
@[simp] theorem State.setScan_result (x : Scan) : (s.setScan x).result = s.result := rfl

/-! ## `State.setCollAcc` -/

@[simp] theorem State.setCollAcc_mem (x : BitVec 4) : (s.setCollAcc x).mem = s.mem := rfl
@[simp] theorem State.setCollAcc_port0 (x : BitVec 4) : (s.setCollAcc x).port0 = s.port0 := rfl
@[simp] theorem State.setCollAcc_port1 (x : BitVec 4) : (s.setCollAcc x).port1 = s.port1 := rfl
@[simp] theorem State.setCollAcc_dcsel (x : BitVec 4) : (s.setCollAcc x).dcsel = s.dcsel := rfl
@[simp] theorem State.setCollAcc_addrSel (x : BitVec 4) : (s.setCollAcc x).addrSel = s.addrSel := rfl
@[simp] theorem State.setCollAcc_ien (x : BitVec 4) : (s.setCollAcc x).ien = s.ien := rfl
@[simp] theorem State.setCollAcc_irqLine (x : BitVec 4) : (s.setCollAcc x).irqLine = s.irqLine := rfl
@[simp] theorem State.setCollAcc_isr (x : BitVec 4) : (s.setCollAcc x).isr = s.isr := rfl
@[simp] theorem State.setCollAcc_comp (x : BitVec 4) : (s.setCollAcc x).comp = s.comp := rfl
@[simp] theorem State.setCollAcc_fx (x : BitVec 4) : (s.setCollAcc x).fx = s.fx := rfl
@[simp] theorem State.setCollAcc_layer0 (x : BitVec 4) : (s.setCollAcc x).layer0 = s.layer0 := rfl
@[simp] theorem State.setCollAcc_layer1 (x : BitVec 4) : (s.setCollAcc x).layer1 = s.layer1 := rfl
@[simp] theorem State.setCollAcc_scan (x : BitVec 4) : (s.setCollAcc x).scan = s.scan := rfl
@[simp] theorem State.setCollAcc_collAcc (x : BitVec 4) : (s.setCollAcc x).collAcc = x := rfl
@[simp] theorem State.setCollAcc_fb (x : BitVec 4) : (s.setCollAcc x).fb = s.fb := rfl
@[simp] theorem State.setCollAcc_cfg (x : BitVec 4) : (s.setCollAcc x).cfg = s.cfg := rfl
@[simp] theorem State.setCollAcc_epoch (x : BitVec 4) : (s.setCollAcc x).epoch = s.epoch := rfl
@[simp] theorem State.setCollAcc_inputs (x : BitVec 4) : (s.setCollAcc x).inputs = s.inputs := rfl
@[simp] theorem State.setCollAcc_queue (x : BitVec 4) : (s.setCollAcc x).queue = s.queue := rfl
@[simp] theorem State.setCollAcc_events (x : BitVec 4) : (s.setCollAcc x).events = s.events := rfl
@[simp] theorem State.setCollAcc_result (x : BitVec 4) : (s.setCollAcc x).result = s.result := rfl

/-! ## `State.setFb` -/

@[simp] theorem State.setFb_mem (x : List (Nat × List Byte)) : (s.setFb x).mem = s.mem := rfl
@[simp] theorem State.setFb_port0 (x : List (Nat × List Byte)) : (s.setFb x).port0 = s.port0 := rfl
@[simp] theorem State.setFb_port1 (x : List (Nat × List Byte)) : (s.setFb x).port1 = s.port1 := rfl
@[simp] theorem State.setFb_dcsel (x : List (Nat × List Byte)) : (s.setFb x).dcsel = s.dcsel := rfl
@[simp] theorem State.setFb_addrSel (x : List (Nat × List Byte)) : (s.setFb x).addrSel = s.addrSel := rfl
@[simp] theorem State.setFb_ien (x : List (Nat × List Byte)) : (s.setFb x).ien = s.ien := rfl
@[simp] theorem State.setFb_irqLine (x : List (Nat × List Byte)) : (s.setFb x).irqLine = s.irqLine := rfl
@[simp] theorem State.setFb_isr (x : List (Nat × List Byte)) : (s.setFb x).isr = s.isr := rfl
@[simp] theorem State.setFb_comp (x : List (Nat × List Byte)) : (s.setFb x).comp = s.comp := rfl
@[simp] theorem State.setFb_fx (x : List (Nat × List Byte)) : (s.setFb x).fx = s.fx := rfl
@[simp] theorem State.setFb_layer0 (x : List (Nat × List Byte)) : (s.setFb x).layer0 = s.layer0 := rfl
@[simp] theorem State.setFb_layer1 (x : List (Nat × List Byte)) : (s.setFb x).layer1 = s.layer1 := rfl
@[simp] theorem State.setFb_scan (x : List (Nat × List Byte)) : (s.setFb x).scan = s.scan := rfl
@[simp] theorem State.setFb_collAcc (x : List (Nat × List Byte)) : (s.setFb x).collAcc = s.collAcc := rfl
@[simp] theorem State.setFb_fb (x : List (Nat × List Byte)) : (s.setFb x).fb = x := rfl
@[simp] theorem State.setFb_cfg (x : List (Nat × List Byte)) : (s.setFb x).cfg = s.cfg := rfl
@[simp] theorem State.setFb_epoch (x : List (Nat × List Byte)) : (s.setFb x).epoch = s.epoch := rfl
@[simp] theorem State.setFb_inputs (x : List (Nat × List Byte)) : (s.setFb x).inputs = s.inputs := rfl
@[simp] theorem State.setFb_queue (x : List (Nat × List Byte)) : (s.setFb x).queue = s.queue := rfl
@[simp] theorem State.setFb_events (x : List (Nat × List Byte)) : (s.setFb x).events = s.events := rfl
@[simp] theorem State.setFb_result (x : List (Nat × List Byte)) : (s.setFb x).result = s.result := rfl

/-! ## `State.emit` -/

@[simp] theorem State.emit_mem (e : Event) : (s.emit e).mem = s.mem := rfl
@[simp] theorem State.emit_port0 (e : Event) : (s.emit e).port0 = s.port0 := rfl
@[simp] theorem State.emit_port1 (e : Event) : (s.emit e).port1 = s.port1 := rfl
@[simp] theorem State.emit_dcsel (e : Event) : (s.emit e).dcsel = s.dcsel := rfl
@[simp] theorem State.emit_addrSel (e : Event) : (s.emit e).addrSel = s.addrSel := rfl
@[simp] theorem State.emit_ien (e : Event) : (s.emit e).ien = s.ien := rfl
@[simp] theorem State.emit_irqLine (e : Event) : (s.emit e).irqLine = s.irqLine := rfl
@[simp] theorem State.emit_isr (e : Event) : (s.emit e).isr = s.isr := rfl
@[simp] theorem State.emit_comp (e : Event) : (s.emit e).comp = s.comp := rfl
@[simp] theorem State.emit_fx (e : Event) : (s.emit e).fx = s.fx := rfl
@[simp] theorem State.emit_layer0 (e : Event) : (s.emit e).layer0 = s.layer0 := rfl
@[simp] theorem State.emit_layer1 (e : Event) : (s.emit e).layer1 = s.layer1 := rfl
@[simp] theorem State.emit_scan (e : Event) : (s.emit e).scan = s.scan := rfl
@[simp] theorem State.emit_collAcc (e : Event) : (s.emit e).collAcc = s.collAcc := rfl
@[simp] theorem State.emit_fb (e : Event) : (s.emit e).fb = s.fb := rfl
@[simp] theorem State.emit_cfg (e : Event) : (s.emit e).cfg = s.cfg := rfl
@[simp] theorem State.emit_epoch (e : Event) : (s.emit e).epoch = s.epoch := rfl
@[simp] theorem State.emit_inputs (e : Event) : (s.emit e).inputs = s.inputs := rfl
@[simp] theorem State.emit_queue (e : Event) : (s.emit e).queue = s.queue := rfl
@[simp] theorem State.emit_events (e : Event) : (s.emit e).events = s.events ++ [e] := rfl
@[simp] theorem State.emit_result (e : Event) : (s.emit e).result = s.result := rfl

/-! ## `State.returning` -/

@[simp] theorem State.returning_mem (r : HostResult) : (s.returning r).mem = s.mem := rfl
@[simp] theorem State.returning_port0 (r : HostResult) : (s.returning r).port0 = s.port0 := rfl
@[simp] theorem State.returning_port1 (r : HostResult) : (s.returning r).port1 = s.port1 := rfl
@[simp] theorem State.returning_dcsel (r : HostResult) : (s.returning r).dcsel = s.dcsel := rfl
@[simp] theorem State.returning_addrSel (r : HostResult) : (s.returning r).addrSel = s.addrSel := rfl
@[simp] theorem State.returning_ien (r : HostResult) : (s.returning r).ien = s.ien := rfl
@[simp] theorem State.returning_irqLine (r : HostResult) : (s.returning r).irqLine = s.irqLine := rfl
@[simp] theorem State.returning_isr (r : HostResult) : (s.returning r).isr = s.isr := rfl
@[simp] theorem State.returning_comp (r : HostResult) : (s.returning r).comp = s.comp := rfl
@[simp] theorem State.returning_fx (r : HostResult) : (s.returning r).fx = s.fx := rfl
@[simp] theorem State.returning_layer0 (r : HostResult) : (s.returning r).layer0 = s.layer0 := rfl
@[simp] theorem State.returning_layer1 (r : HostResult) : (s.returning r).layer1 = s.layer1 := rfl
@[simp] theorem State.returning_scan (r : HostResult) : (s.returning r).scan = s.scan := rfl
@[simp] theorem State.returning_collAcc (r : HostResult) : (s.returning r).collAcc = s.collAcc := rfl
@[simp] theorem State.returning_fb (r : HostResult) : (s.returning r).fb = s.fb := rfl
@[simp] theorem State.returning_cfg (r : HostResult) : (s.returning r).cfg = s.cfg := rfl
@[simp] theorem State.returning_epoch (r : HostResult) : (s.returning r).epoch = s.epoch := rfl
@[simp] theorem State.returning_inputs (r : HostResult) : (s.returning r).inputs = s.inputs := rfl
@[simp] theorem State.returning_queue (r : HostResult) : (s.returning r).queue = s.queue := rfl
@[simp] theorem State.returning_events (r : HostResult) : (s.returning r).events = s.events := rfl
@[simp] theorem State.returning_result (r : HostResult) : (s.returning r).result = r := rfl

/-! ## `State.setPort` -/

@[simp] theorem State.setPort_mem (p : PortId) (q : Port) : (s.setPort p q).mem = s.mem := by cases p <;> rfl
@[simp] theorem State.setPort_dcsel (p : PortId) (q : Port) : (s.setPort p q).dcsel = s.dcsel := by cases p <;> rfl
@[simp] theorem State.setPort_addrSel (p : PortId) (q : Port) : (s.setPort p q).addrSel = s.addrSel := by cases p <;> rfl
@[simp] theorem State.setPort_ien (p : PortId) (q : Port) : (s.setPort p q).ien = s.ien := by cases p <;> rfl
@[simp] theorem State.setPort_irqLine (p : PortId) (q : Port) : (s.setPort p q).irqLine = s.irqLine := by cases p <;> rfl
@[simp] theorem State.setPort_isr (p : PortId) (q : Port) : (s.setPort p q).isr = s.isr := by cases p <;> rfl
@[simp] theorem State.setPort_comp (p : PortId) (q : Port) : (s.setPort p q).comp = s.comp := by cases p <;> rfl
@[simp] theorem State.setPort_fx (p : PortId) (q : Port) : (s.setPort p q).fx = s.fx := by cases p <;> rfl
@[simp] theorem State.setPort_layer0 (p : PortId) (q : Port) : (s.setPort p q).layer0 = s.layer0 := by cases p <;> rfl
@[simp] theorem State.setPort_layer1 (p : PortId) (q : Port) : (s.setPort p q).layer1 = s.layer1 := by cases p <;> rfl
@[simp] theorem State.setPort_scan (p : PortId) (q : Port) : (s.setPort p q).scan = s.scan := by cases p <;> rfl
@[simp] theorem State.setPort_collAcc (p : PortId) (q : Port) : (s.setPort p q).collAcc = s.collAcc := by cases p <;> rfl
@[simp] theorem State.setPort_fb (p : PortId) (q : Port) : (s.setPort p q).fb = s.fb := by cases p <;> rfl
@[simp] theorem State.setPort_cfg (p : PortId) (q : Port) : (s.setPort p q).cfg = s.cfg := by cases p <;> rfl
@[simp] theorem State.setPort_epoch (p : PortId) (q : Port) : (s.setPort p q).epoch = s.epoch := by cases p <;> rfl
@[simp] theorem State.setPort_inputs (p : PortId) (q : Port) : (s.setPort p q).inputs = s.inputs := by cases p <;> rfl
@[simp] theorem State.setPort_queue (p : PortId) (q : Port) : (s.setPort p q).queue = s.queue := by cases p <;> rfl
@[simp] theorem State.setPort_events (p : PortId) (q : Port) : (s.setPort p q).events = s.events := by cases p <;> rfl
@[simp] theorem State.setPort_result (p : PortId) (q : Port) : (s.setPort p q).result = s.result := by cases p <;> rfl

@[simp] theorem State.setPort_port_same (p : PortId) (q : Port) : (s.setPort p q).port p = q := by cases p <;> rfl

theorem State.setPort_port_other {p p' : PortId} (h : p' ≠ p) (q : Port) : (s.setPort p q).port p' = s.port p' := by
  cases p <;> cases p' <;> first | rfl | exact absurd rfl h

@[simp] theorem State.setPort_port0_port0 (q : Port) : (s.setPort .port0 q).port0 = q := rfl
@[simp] theorem State.setPort_port0_port1 (q : Port) : (s.setPort .port0 q).port1 = s.port1 := rfl
@[simp] theorem State.setPort_port1_port0 (q : Port) : (s.setPort .port1 q).port0 = s.port0 := rfl
@[simp] theorem State.setPort_port1_port1 (q : Port) : (s.setPort .port1 q).port1 = q := rfl
@[simp] theorem State.port_port0 : s.port .port0 = s.port0 := rfl
@[simp] theorem State.port_port1 : s.port .port1 = s.port1 := rfl
@[simp] theorem State.setPort_self (p : PortId) : s.setPort p (s.port p) = s := by cases p <;> rfl

/-! ## Views that an update does not touch -/

@[simp] theorem State.setMem_port (m : List Host.Cell) (q : PortId) : (s.setMem m).port q = s.port q := by cases q <;> rfl
@[simp] theorem State.setCtrl_port (d : BitVec 6) (p : PortId) (q : PortId) : (s.setCtrl d p).port q = s.port q := by cases q <;> rfl
@[simp] theorem State.setIen_port (x : BitVec 4) (q : PortId) : (s.setIen x).port q = s.port q := by cases q <;> rfl
@[simp] theorem State.setIrqLine_port (x : BitVec 9) (q : PortId) : (s.setIrqLine x).port q = s.port q := by cases q <;> rfl
@[simp] theorem State.setIsr_port (x : IntStatus) (q : PortId) : (s.setIsr x).port q = s.port q := by cases q <;> rfl
@[simp] theorem State.setComp_port (x : Vector Byte 256) (q : PortId) : (s.setComp x).port q = s.port q := by cases q <;> rfl
@[simp] theorem State.setFx_port (x : Fx) (q : PortId) : (s.setFx x).port q = s.port q := by cases q <;> rfl
@[simp] theorem State.setLayer0_port (x : LayerRegs) (q : PortId) : (s.setLayer0 x).port q = s.port q := by cases q <;> rfl
@[simp] theorem State.setLayer1_port (x : LayerRegs) (q : PortId) : (s.setLayer1 x).port q = s.port q := by cases q <;> rfl
@[simp] theorem State.setScan_port (x : Scan) (q : PortId) : (s.setScan x).port q = s.port q := by cases q <;> rfl
@[simp] theorem State.setCollAcc_port (x : BitVec 4) (q : PortId) : (s.setCollAcc x).port q = s.port q := by cases q <;> rfl
@[simp] theorem State.setFb_port (x : List (Nat × List Byte)) (q : PortId) : (s.setFb x).port q = s.port q := by cases q <;> rfl
@[simp] theorem State.emit_port (e : Event) (q : PortId) : (s.emit e).port q = s.port q := by cases q <;> rfl
@[simp] theorem State.returning_port (r : HostResult) (q : PortId) : (s.returning r).port q = s.port q := by cases q <;> rfl
@[simp] theorem State.setCtrl_readByte (d : BitVec 6) (p : PortId) (v : VAddr) : (s.setCtrl d p).readByte v = s.readByte v := rfl
@[simp] theorem State.setIen_readByte (x : BitVec 4) (v : VAddr) : (s.setIen x).readByte v = s.readByte v := rfl
@[simp] theorem State.setIrqLine_readByte (x : BitVec 9) (v : VAddr) : (s.setIrqLine x).readByte v = s.readByte v := rfl
@[simp] theorem State.setIsr_readByte (x : IntStatus) (v : VAddr) : (s.setIsr x).readByte v = s.readByte v := rfl
@[simp] theorem State.setComp_readByte (x : Vector Byte 256) (v : VAddr) : (s.setComp x).readByte v = s.readByte v := rfl
@[simp] theorem State.setFx_readByte (x : Fx) (v : VAddr) : (s.setFx x).readByte v = s.readByte v := rfl
@[simp] theorem State.setLayer0_readByte (x : LayerRegs) (v : VAddr) : (s.setLayer0 x).readByte v = s.readByte v := rfl
@[simp] theorem State.setLayer1_readByte (x : LayerRegs) (v : VAddr) : (s.setLayer1 x).readByte v = s.readByte v := rfl
@[simp] theorem State.setScan_readByte (x : Scan) (v : VAddr) : (s.setScan x).readByte v = s.readByte v := rfl
@[simp] theorem State.setCollAcc_readByte (x : BitVec 4) (v : VAddr) : (s.setCollAcc x).readByte v = s.readByte v := rfl
@[simp] theorem State.setFb_readByte (x : List (Nat × List Byte)) (v : VAddr) : (s.setFb x).readByte v = s.readByte v := rfl
@[simp] theorem State.emit_readByte (e : Event) (v : VAddr) : (s.emit e).readByte v = s.readByte v := rfl
@[simp] theorem State.returning_readByte (r : HostResult) (v : VAddr) : (s.returning r).readByte v = s.readByte v := rfl
@[simp] theorem State.setPort_readByte (p : PortId) (q : Port) (x : VAddr) : (s.setPort p q).readByte x = s.readByte x := by cases p <;> rfl

end Sys2Proof.Machine
end

