-- ==== Sys2Proof/Laws/Memory.lean ====
section
/-! SUPPORT. Laws.Memory: what the VRAM operations and the framebuffer lines do, once each: a read after a
store, and the canonical forms kept. -/

namespace Sys2Proof.Machine

/-! ## Lookup -/

theorem Memory.lookup_insert (a v b) : ∀ m : List Host.Cell,
    Memory.lookup (Memory.insert a v m) b = if b = a then some v else Memory.lookup m b
  | [] => by simp [Memory.insert, Memory.lookup, eq_comm]
  | (k, c) :: m => by
    have ih := Memory.lookup_insert a v b m
    unfold Memory.insert
    split
    · simp only [Memory.lookup, eq_comm]
    · split
      · subst k
        by_cases hb : a = b <;> simp [Memory.lookup, hb, eq_comm]
      · rename_i h
        simp only [Memory.lookup, ih]
        split
        · subst k
          rw [if_neg (fun e => h e.symm)]
        · rfl

theorem Memory.lookup_erase (a b) : ∀ m : List Host.Cell,
    Memory.lookup (Memory.erase a m) b = if b = a then none else Memory.lookup m b
  | [] => by simp [Memory.erase, Memory.lookup]
  | (k, c) :: m => by
    have ih := Memory.lookup_erase a b m
    by_cases hb : b = a <;> by_cases h : k = a <;> simp_all [Memory.erase, Memory.lookup, eq_comm]

/-- A VRAM byte after a store: the byte stored there, every other byte as before. -/
theorem State.readByte_write (s : State) (a b : VAddr) (v : Byte) :
    (s.setMem (Memory.write s.cfg s.mem a.toNat v)).readByte b = if b = a then v else s.readByte b := by
  have hab : b.toNat = a.toNat ↔ b = a := BitVec.toNat_inj
  by_cases hd : vramDefault s.cfg a.toNat = some v <;> by_cases hb : b = a <;>
    simp [State.readByte, Memory.write, hd, Memory.lookup_insert, Memory.lookup_erase, hab, hb]

/-! ## `MemWrite` (R86) -/

/-- Everything `memWrite` can do: the VRAM list and the events, and nothing else. -/
theorem memWrite_eq (a : VAddr) (v : Byte) (s : State) :
    memWrite a v s =
      { s with
        mem := Memory.write s.cfg s.mem a.toNat v
        events := s.events ++
          if audioBase ≤ a.toNat ∧ a.toNat < palBase then [.audioWrite (a.toNat - audioBase) v] else [] } := by
  unfold memWrite
  split <;> simp_all [State.setMem, State.emit]

@[simp] theorem memWrite_readByte (a b : VAddr) (v : Byte) (s : State) :
    (memWrite a v s).readByte b = if b = a then v else s.readByte b := by
  rw [← State.readByte_write]
  unfold memWrite
  split <;> rfl

theorem memWrite_port (a : VAddr) (v : Byte) (s : State) (p : PortId) : (memWrite a v s).port p = s.port p := by
  rw [memWrite_eq]; cases p <;> rfl

/-! ## The canonical form of VRAM -/

theorem Memory.rising_mono {low low' : Nat} (h : low' ≤ low) :
    ∀ {m : List Host.Cell}, Memory.rising low m = true → Memory.rising low' m = true
  | [], _ => rfl
  | (k, _) :: m, hm => by
    simp only [Memory.rising, Bool.and_eq_true, decide_eq_true_eq] at hm ⊢
    exact ⟨by omega, hm.2⟩

theorem Memory.rising_insert (a v) : ∀ {low : Nat} {m : List Host.Cell},
    low ≤ a → Memory.rising low m = true → Memory.rising low (Memory.insert a v m) = true
  | low, [], h, _ => by simp [Memory.insert, Memory.rising, h]
  | low, (k, c) :: m, h, hm => by
    simp only [Memory.rising, Bool.and_eq_true, decide_eq_true_eq] at hm
    unfold Memory.insert
    split
    · simp only [Memory.rising, Bool.and_eq_true, decide_eq_true_eq]
      exact ⟨h, by omega, hm.2⟩
    · split
      · subst k
        simp only [Memory.rising, Bool.and_eq_true, decide_eq_true_eq]
        exact ⟨h, hm.2⟩
      · simp only [Memory.rising, Bool.and_eq_true, decide_eq_true_eq]
        exact ⟨hm.1, Memory.rising_insert a v (by omega) hm.2⟩

theorem Memory.rising_erase (a) : ∀ {low : Nat} {m : List Host.Cell},
    Memory.rising low m = true → Memory.rising low (Memory.erase a m) = true
  | low, [], _ => rfl
  | low, (k, c) :: m, hm => by
    simp only [Memory.rising, Bool.and_eq_true, decide_eq_true_eq] at hm
    unfold Memory.erase
    split
    · exact Memory.rising_erase a (Memory.rising_mono (by omega) hm.2)
    · simp only [Memory.rising, Bool.and_eq_true, decide_eq_true_eq]
      exact ⟨hm.1, Memory.rising_erase a hm.2⟩

theorem Memory.mem_insert {a v} {c : Host.Cell} : ∀ {m : List Host.Cell},
    c ∈ Memory.insert a v m → c = (a, v) ∨ c ∈ m
  | [], h => by simpa [Memory.insert] using h
  | (k, b) :: m, h => by
    have ih := @Memory.mem_insert a v c m
    unfold Memory.insert at h
    split at h
    · simpa using h
    · split at h
      · simp only [List.mem_cons] at h ⊢; tauto
      · simp only [List.mem_cons] at h ⊢; tauto

theorem Memory.mem_erase {a} {c : Host.Cell} : ∀ {m : List Host.Cell}, c ∈ Memory.erase a m → c ∈ m
  | [], h => by simp [Memory.erase] at h
  | (k, b) :: m, h => by
    have ih := @Memory.mem_erase a c m
    unfold Memory.erase at h
    split at h
    · exact List.mem_cons_of_mem _ (ih h)
    · simp only [List.mem_cons] at h ⊢; tauto

/-- A store keeps the canonical form. -/
theorem Memory.wf_write (cfg : Config) (m : List Host.Cell) (a : Nat) (v : Byte) (ha : a < vramSize)
    (h : Memory.wf cfg m = true) : Memory.wf cfg (Memory.write cfg m a v) = true := by
  simp only [Memory.wf, Bool.and_eq_true, List.all_eq_true, decide_eq_true_eq, bne_iff_ne] at h ⊢
  unfold Memory.write
  split
  · exact ⟨Memory.rising_erase a h.1, fun c hc => h.2 c (Memory.mem_erase hc)⟩
  · rename_i hd
    refine ⟨Memory.rising_insert a v (Nat.zero_le a) h.1, fun c hc => ?_⟩
    rcases Memory.mem_insert hc with rfl | hc
    · exact ⟨ha, hd⟩
    · exact h.2 c hc

/-- `MemWrite` keeps the canonical form. -/
theorem memWrite_wf (a : VAddr) (v : Byte) (s : State) (h : Memory.wf s.cfg s.mem = true) :
    Memory.wf (memWrite a v s).cfg (memWrite a v s).mem = true := by
  rw [memWrite_eq]
  exact Memory.wf_write s.cfg s.mem a.toNat v a.isLt h

/-- The memory right after reset has the canonical form. -/
theorem State.reset_mem_wf : Memory.wf State.reset.cfg State.reset.mem = true := rfl

/-! ## Framebuffer lines -/

theorem FrameLines.get_put (y bytes z) : ∀ fb : List (Nat × List Byte),
    FrameLines.get (FrameLines.put y bytes fb) z = if z = y then some bytes else FrameLines.get fb z
  | [] => by simp [FrameLines.put, FrameLines.get, eq_comm]
  | (k, c) :: fb => by
    have ih := FrameLines.get_put y bytes z fb
    unfold FrameLines.put
    split
    · simp only [FrameLines.get, eq_comm]
    · split
      · subst k
        by_cases hb : y = z <;> simp [FrameLines.get, hb, eq_comm]
      · rename_i h
        simp only [FrameLines.get, ih]
        split
        · subst k
          rw [if_neg (fun e => h e.symm)]
        · rfl

theorem FrameLines.rising_put (y bytes) : ∀ {low : Nat} {fb : List (Nat × List Byte)},
    low ≤ y → FrameLines.rising low fb = true → FrameLines.rising low (FrameLines.put y bytes fb) = true
  | low, [], h, _ => by simp [FrameLines.put, FrameLines.rising, h]
  | low, (k, c) :: fb, h, hm => by
    simp only [FrameLines.rising, Bool.and_eq_true, decide_eq_true_eq] at hm
    unfold FrameLines.put
    split
    · simp only [FrameLines.rising, Bool.and_eq_true, decide_eq_true_eq]
      exact ⟨h, by omega, hm.2⟩
    · split
      · subst k
        simp only [FrameLines.rising, Bool.and_eq_true, decide_eq_true_eq]
        exact ⟨h, hm.2⟩
      · simp only [FrameLines.rising, Bool.and_eq_true, decide_eq_true_eq]
        exact ⟨hm.1, FrameLines.rising_put y bytes (by omega) hm.2⟩

theorem FrameLines.mem_put {y bytes} {l : Nat × List Byte} : ∀ {fb : List (Nat × List Byte)},
    l ∈ FrameLines.put y bytes fb → l = (y, bytes) ∨ l ∈ fb
  | [], h => by simpa [FrameLines.put] using h
  | (k, b) :: fb, h => by
    have ih := @FrameLines.mem_put y bytes l fb
    unfold FrameLines.put at h
    split at h
    · simpa using h
    · split at h
      · simp only [List.mem_cons] at h ⊢; tauto
      · simp only [List.mem_cons] at h ⊢; tauto

/-- Writing a whole visible line keeps the framebuffer's form. -/
theorem FrameLines.wf_put (y : Nat) (bytes : List Byte) (fb : List (Nat × List Byte)) (hy : y < screenH)
    (hl : bytes.length = lineBytes) (h : FrameLines.wf fb = true) :
    FrameLines.wf (FrameLines.put y bytes fb) = true := by
  simp only [FrameLines.wf, Bool.and_eq_true, List.all_eq_true, decide_eq_true_eq, beq_iff_eq] at h ⊢
  refine ⟨FrameLines.rising_put y bytes (Nat.zero_le y) h.1, fun l hm => ?_⟩
  rcases FrameLines.mem_put hm with rfl | hm
  · exact ⟨hy, hl⟩
  · exact h.2 l hm

end Sys2Proof.Machine
end

