-- ==== Sys2Proof/Laws/Fx.lean ====
section
/-! SUPPORT. Laws.Fx: what the shared operations of the data-port access path can do, once each. The
address advance touches the ports' addresses, nibble selects and read caches and the FX positions; a store
touches VRAM at the addresses it names and the events. -/

namespace Sys2Proof.Machine

/-! ## The address advance -/

/-- `t` differs from `s` at most in what an address advance may change. -/
structure AdvancesOnly (s t : State) : Prop where
  rest : t = { s with port0 := t.port0, port1 := t.port1, fx := t.fx }
  port0_inc : t.port0.inc = s.port0.inc
  port1_inc : t.port1.inc = s.port1.inc
  port0_nibInc : t.port0.nibInc = s.port0.nibInc
  port1_nibInc : t.port1.nibInc = s.port1.nibInc
  fx : t.fx = { s.fx with xPos := t.fx.xPos, yPos := t.fx.yPos, cByte := t.fx.cByte }

theorem AdvancesOnly.refl (s : State) : AdvancesOnly s s := ⟨rfl, rfl, rfl, rfl, rfl, rfl⟩

theorem AdvancesOnly.trans {s t u : State} (h : AdvancesOnly s t) (k : AdvancesOnly t u) : AdvancesOnly s u where
  rest := by rw [k.rest, h.rest]
  port0_inc := k.port0_inc.trans h.port0_inc
  port1_inc := k.port1_inc.trans h.port1_inc
  port0_nibInc := k.port0_nibInc.trans h.port0_nibInc
  port1_nibInc := k.port1_nibInc.trans h.port1_nibInc
  fx := by rw [k.fx, h.fx]

/-- An address advance leaves every byte of VRAM as it was. -/
theorem AdvancesOnly.readByte_eq {s t : State} (h : AdvancesOnly s t) (a : VAddr) : t.readByte a = s.readByte a := by
  rw [h.rest]; rfl

/-- An address advance leaves the composer file, so every FX control bit, as it was. -/
theorem AdvancesOnly.comp_eq {s t : State} (h : AdvancesOnly s t) : t.comp = s.comp := by rw [h.rest]

/-- A port whose increment index and auto flag stay may be replaced. -/
theorem AdvancesOnly.setPort (p : PortId) (q : Port) (s : State) (hi : q.inc = (s.port p).inc)
    (hn : q.nibInc = (s.port p).nibInc) : AdvancesOnly s (s.setPort p q) := by
  cases p <;> exact ⟨rfl, by simp_all, by simp_all, by simp_all, by simp_all, rfl⟩

/-- The positions and the cache index may be replaced. -/
theorem AdvancesOnly.setFx (s : State) (x y : Fixed) (c : BitVec 2) :
    AdvancesOnly s (s.setFx { s.fx with xPos := x, yPos := y, cByte := c }) := ⟨rfl, rfl, rfl, rfl, rfl, rfl⟩

theorem reprime_advances (p : PortId) (s : State) : AdvancesOnly s (reprime p s) :=
  AdvancesOnly.setPort p _ s rfl rfl

theorem movePort_advances (p : PortId) (d : Int) (s : State) : AdvancesOnly s (movePort p d s) :=
  AdvancesOnly.setPort p _ s rfl rfl

theorem nibbleStep_advances (p : PortId) (s : State) : AdvancesOnly s (nibbleStep p s) := by
  unfold nibbleStep
  dsimp only
  split
  · split <;> exact AdvancesOnly.setPort p _ s rfl rfl
  · exact AdvancesOnly.refl s

theorem coupleLine_advances (p : PortId) (s : State) : AdvancesOnly s (coupleLine p s) := by
  unfold coupleLine
  dsimp only
  have h := AdvancesOnly.setFx s (BitVec.ofInt 32 (s.fx.xPos.toInt + s.fx.xInc.toInt)) s.fx.yPos s.fx.cByte
  split
  · exact h
  · split
    · exact (h.trans (movePort_advances _ _ _)).trans (reprime_advances _ _)
    · exact h.trans (movePort_advances _ _ _)

theorem setPort1_reprime_advances (q : Port) (s : State) (hi : q.inc = s.port1.inc)
    (hn : q.nibInc = s.port1.nibInc) : AdvancesOnly s (reprime .port1 (s.setPort .port1 q)) :=
  (AdvancesOnly.setPort .port1 q s hi hn).trans (reprime_advances .port1 _)

theorem couplePolygon_advances (p : PortId) (s : State) : AdvancesOnly s (couplePolygon p s) := by
  unfold couplePolygon
  dsimp only
  split
  · exact (AdvancesOnly.setFx s _ _ _).trans (setPort1_reprime_advances _ _ rfl rfl)
  · exact setPort1_reprime_advances _ s rfl rfl

theorem couple_advances (p : PortId) (w : Bool) (s : State) : AdvancesOnly s (couple p w s) := by
  unfold couple
  split
  · exact AdvancesOnly.refl s
  · split
    · exact coupleLine_advances p s
    · exact AdvancesOnly.refl s
  · split
    · exact AdvancesOnly.refl s
    · exact couplePolygon_advances p s
  · split
    · exact AdvancesOnly.setFx s _ _ _
    · exact AdvancesOnly.refl s

/-- The couplings never touch port 0. -/
theorem couple_port0 (p : PortId) (w : Bool) (s : State) : (couple p w s).port0 = s.port0 := by
  unfold couple coupleLine couplePolygon coupleAffine
  dsimp only
  (repeat' split) <;> rfl

/-- In mode 0 there is no coupling (R234). -/
theorem couple_direct (p : PortId) (w : Bool) (s : State) (h : s.a1Mode = 0) : couple p w s = s := by
  unfold couple
  rw [h]
  rfl

/-- In affine mode an access other than a port-1 read has no coupling (R238). -/
theorem couple_affine_other (p : PortId) (w : Bool) (s : State) (h : s.a1Mode = 3) (hp : ¬(p = .port1 ∧ w = false)) :
    couple p w s = s := by
  unfold couple
  rw [h]
  show (if p = .port1 ∧ (!w) = true then coupleAffine s else s) = s
  rw [if_neg]
  rintro ⟨h1, h2⟩
  exact hp ⟨h1, by simpa using h2⟩

/-- In polygon mode a write has no coupling (R236). -/
theorem couple_polygon_write (p : PortId) (s : State) (h : s.a1Mode = 2) : couple p true s = s := by
  unfold couple
  rw [h]
  rfl

/-- A line-draw access to the port that does not step: the coupling does nothing (R235). -/
theorem couple_line_other (p : PortId) (w : Bool) (s : State) (h : s.a1Mode = 1) (hp : p ≠ s.cfg.lineStepPort) :
    couple p w s = s := by
  unfold couple
  rw [h]
  exact if_neg hp

/-- A line-draw access to the stepping port, read or write alike (R235). -/
theorem couple_line_stepping (p : PortId) (w : Bool) (s : State) (h : s.a1Mode = 1) (hp : p = s.cfg.lineStepPort) :
    couple p w s = coupleLine p s := by
  unfold couple
  rw [h]
  exact if_pos hp

/-- The line-draw coupling changes the x position of the FX registers and nothing else in them (R235). -/
theorem coupleLine_fx (p : PortId) (s : State) :
    (coupleLine p s).fx = { s.fx with xPos := s.fx.xPos + s.fx.xInc } := by
  have e : BitVec.ofInt 32 (s.fx.xPos.toInt + s.fx.xInc.toInt) = s.fx.xPos + s.fx.xInc := by
    rw [BitVec.ofInt_add, BitVec.ofInt_toInt, BitVec.ofInt_toInt]
  unfold coupleLine
  dsimp only
  rw [e]
  (repeat' split) <;> rfl

/-- The line-draw coupling leaves port 1's nibble select, and moves its address by port 0's step once for every
carry (R235). -/
theorem coupleLine_port1 (p : PortId) (s : State) :
    (coupleLine p s).port1.nib = s.port1.nib ∧
    (coupleLine p s).port1.addr = addrPlus s.port1.addr
      (((s.fx.xPos.toInt + s.fx.xInc.toInt) / 65536 - fixedFloor s.fx.xPos) * portStep .port0 s) := by
  unfold coupleLine
  dsimp only
  split
  · rename_i h
    rw [h, Int.zero_mul]
    exact ⟨rfl, by simp [addrPlus]⟩
  · split <;> exact ⟨rfl, rfl⟩

/-- The polygon coupling steps both positions, and cycles the byte index, on a port-0 read alone (R236). -/
theorem couplePolygon_fx (p : PortId) (s : State) :
    (couplePolygon p s).fx =
      if p = .port0 then
        { s.fx with
          xPos := s.fx.xPos + s.fx.xInc
          yPos := s.fx.yPos + s.fx.yInc
          cByte := if s.cacheCyc ∧ !s.cacheFill then s.fx.cByte + 1 else s.fx.cByte }
      else s.fx := by
  unfold couplePolygon
  split <;> rfl

theorem ownAdvance_advances (p : PortId) (s : State) : AdvancesOnly s (ownAdvance p s) :=
  (nibbleStep_advances p s).trans (movePort_advances _ _ _)

/-- A port's own step changes that port only. -/
theorem ownAdvance_eq (p : PortId) (s : State) : ownAdvance p s = s.setPort p ((ownAdvance p s).port p) := by
  unfold ownAdvance nibbleStep
  dsimp only
  cases p <;> (repeat' split) <;> rfl

/-- A port's own step leaves the FX registers alone. -/
theorem ownAdvance_fx (p : PortId) (s : State) : (ownAdvance p s).fx = s.fx := by
  rw [ownAdvance_eq]; cases p <;> rfl

/-- Outside 4-bit mode a port's own step moves its address by its hop step. -/
theorem ownAdvance_addr (p : PortId) (s : State) (h : s.mode4 = false) :
    ((ownAdvance p s).port p).addr = addrPlus (s.port p).addr (hopStep p (portStep p s) (s.port p).addr s) := by
  unfold ownAdvance nibbleStep
  dsimp only
  rw [h, if_neg (by simp)]
  cases p <;> rfl

/-- `PortAdvance` changes the ports and the FX positions at most. -/
theorem portAdvance_advances (p : PortId) (w : Bool) (s : State) : AdvancesOnly s (portAdvance p w s) :=
  (ownAdvance_advances p s).trans (couple_advances _ _ _)

theorem affinePrefetch_advances (s : State) : AdvancesOnly s (affinePrefetch s) :=
  setPort1_reprime_advances _ s rfl rfl

/-! ## Stores -/

/-- `t` is `s` after stores to addresses in `P` only. -/
structure StoresOnly (P : VAddr → Prop) (s t : State) : Prop where
  rest : t = { s with mem := t.mem, events := t.events }
  outside : ∀ b, ¬ P b → t.readByte b = s.readByte b
  emits : ∃ new, t.events = s.events ++ new
  wf : Memory.wf s.cfg s.mem = true → Memory.wf t.cfg t.mem = true

theorem StoresOnly.refl (P : VAddr → Prop) (s : State) : StoresOnly P s s :=
  ⟨rfl, fun _ _ => rfl, ⟨[], by simp⟩, id⟩

theorem StoresOnly.trans {P : VAddr → Prop} {s t u : State} (h : StoresOnly P s t) (k : StoresOnly P t u) :
    StoresOnly P s u where
  rest := by rw [k.rest, h.rest]
  outside b hb := (k.outside b hb).trans (h.outside b hb)
  emits := by
    obtain ⟨x, hx⟩ := h.emits
    obtain ⟨y, hy⟩ := k.emits
    exact ⟨x ++ y, by rw [hy, hx, List.append_assoc]⟩
  wf := fun hw => k.wf (h.wf hw)

theorem memWrite_stores {P : VAddr → Prop} (a : VAddr) (v : Byte) (s : State) (ha : P a) :
    StoresOnly P s (memWrite a v s) where
  rest := by rw [memWrite_eq]
  outside b hb := by rw [memWrite_readByte, if_neg]; rintro rfl; exact hb ha
  emits := ⟨_, by rw [memWrite_eq]⟩
  wf := memWrite_wf a v s

/-- `FxStore` stores at its address at most. -/
theorem fxStore_stores (a : VAddr) (nib : Bool) (b : Byte) (s : State) :
    StoresOnly (· = a) s (fxStore a nib b s) := by
  unfold fxStore
  (repeat' split) <;> first | exact StoresOnly.refl _ s | exact memWrite_stores a _ s rfl

/-- `CacheStore` stores at its address at most. -/
theorem cacheStore_stores {P : VAddr → Prop} (a : VAddr) (b : Byte) (m : BitVec 2) (s : State) (ha : P a) :
    StoresOnly P s (cacheStore a b m s) := by
  unfold cacheStore
  split <;> first | exact StoresOnly.refl _ s | exact memWrite_stores a _ s ha

/-- `CacheWrite` stores at the four addresses of the aligned group at most. -/
theorem cacheWrite_stores (a : VAddr) (v : Byte) (s : State) :
    StoresOnly (fun b => ∃ k, b = cacheWriteAddr a k) s (cacheWrite a v s) := by
  have one (k : Fin 4) (t : State) :
      StoresOnly (fun b => ∃ k, b = cacheWriteAddr a k) t (cacheWriteOne s a v k t) :=
    cacheStore_stores _ _ _ t ⟨k, rfl⟩
  exact (((one 0 s).trans (one 1 _)).trans (one 2 _)).trans (one 3 _)

/-- Address `k` of a cache write's group (R249): bits 1:0 cleared, then `k` added, without a carry. -/
theorem cacheWriteAddr_toNat (a : VAddr) (k : Fin 4) : (cacheWriteAddr a k).toNat = a.toNat / 4 * 4 + k.val := by
  have masked : a &&& 0x1FFFC#17 = (a >>> 2) <<< 2 := by
    apply BitVec.eq_of_getLsbD_eq
    intro i hi
    rw [BitVec.getLsbD_and, BitVec.getLsbD_shiftLeft, BitVec.getLsbD_ushiftRight]
    interval_cases i <;> simp [BitVec.getLsbD] <;> intro _ <;> decide
  have ha := a.isLt
  have hk := k.isLt
  unfold cacheWriteAddr
  rw [masked, BitVec.toNat_add, BitVec.toNat_shiftLeft, BitVec.toNat_ushiftRight, Nat.shiftLeft_eq,
    Nat.shiftRight_eq_div_pow, BitVec.toNat_ofNat]
  omega

/-- The store part of a data write stores at the port's address, or with CACHE_WR in its aligned group. -/
theorem dataStore_stores (a : VAddr) (nib : Bool) (v : Byte) (s : State) :
    StoresOnly (fun b => if s.cacheWr then b.toNat / 4 = a.toNat / 4 else b = a) s (dataStore a nib v s) := by
  unfold dataStore
  split
  · have h := cacheWrite_stores a v s
    refine ⟨h.rest, fun b hb => h.outside b ?_, h.emits, h.wf⟩
    rintro ⟨k, rfl⟩
    apply hb
    have hk := k.isLt
    have ha := cacheWriteAddr_toNat a k
    show (cacheWriteAddr a k).toNat / 4 = a.toNat / 4
    omega
  · have h := fxStore_stores a nib (if s.cacheCyc then cacheByte s else v) s
    exact ⟨h.rest, h.outside, h.emits, h.wf⟩

/-- A port's own step keeps the addressing mode. -/
theorem ownAdvance_a1Mode (p : PortId) (s : State) : (ownAdvance p s).a1Mode = s.a1Mode := by
  unfold State.a1Mode
  rw [(ownAdvance_advances p s).comp_eq]

/-- No advance of port 1 touches port 0. -/
theorem portAdvance_port0 (w : Bool) (s : State) : (portAdvance .port1 w s).port0 = s.port0 := by
  unfold portAdvance
  rw [couple_port0, ownAdvance_eq]
  rfl

/-! ## The data-window procedures -/

/-- Before the cache fill, a data read has only advanced, and its port's cache holds the byte at its new
address. -/
theorem primedRead_spec (p : PortId) (s : State) :
    AdvancesOnly s (primedRead p s) ∧
      ((primedRead p s).port p).rdData = s.readByte ((primedRead p s).port p).addr := by
  have ha := portAdvance_advances p false s
  unfold primedRead
  dsimp only
  split
  · rename_i h
    obtain ⟨rfl, _⟩ := h
    refine ⟨ha.trans (affinePrefetch_advances _), ?_⟩
    rw [← (ha.trans (affinePrefetch_advances _)).readByte_eq]
    rfl
  · have hr := ha.trans (reprime_advances p _)
    refine ⟨hr, ?_⟩
    rw [← hr.readByte_eq]
    cases p <;> rfl

/-! ## Cache fill -/

/-- `CacheFill` changes the cache and its indices only. -/
theorem fillCache_eq (r : Byte) (s : State) :
    fillCache r s = s.setFx { s.fx with
      cache := (fillCache r s).fx.cache
      cByte := (fillCache r s).fx.cByte
      cNib := (fillCache r s).fx.cNib } := by
  unfold fillCache withCacheByte
  dsimp only
  (repeat' split) <;> rfl

end Sys2Proof.Machine
end

