-- ==== Sys2Proof/Laws/PerInstr.lean ====
section
/-! SUPPORT. Laws.PerInstr: one statement about every host operation, lemma by lemma: the command that
spells it keeps the formats of spec/30_encoding.md R110 and none of the rules of R116 that make a word
invalid. -/

namespace Sys2Proof.Laws.CommandFormat

/-- A command in one of the four formats of R110: bit 13 clear, DATA 0 unless KIND is 1, and for KIND 3 a
call number of R112. -/
def Formatted (c : HostCommand) : Prop :=
  c.word.getLsbD 13 = false ∧
    (c.word.extractLsb' 14 2 ≠ 1 → c.word.extractLsb' 0 8 = 0) ∧
    (c.word.extractLsb' 14 2 = 3 → c.word.extractLsb' 8 5 ≤ 5)

/-- The command that spells the operation is in one of the four formats. -/
def Statement (i : Instr) : Prop := Formatted (encode i)

theorem formatted_read : ∀ reg, Formatted (readCommand reg) := by unfold Formatted; decide

theorem formatted_write (reg : BitVec 5) (v : Byte) : Formatted (writeCommand reg v) := by
  have bit (k : Nat) (hk : 13 ≤ k) : (writeCommand reg v).word.getLsbD k = (1#2 ++ 0#1).getLsbD (k - 13) := by
    simp only [writeCommand, commandWord, BitVec.getLsbD_append]
    rw [if_neg (by omega), if_neg (by omega)]
    congr 1
  have kind : (writeCommand reg v).word.extractLsb' 14 2 = 1 := by
    apply BitVec.eq_of_getLsbD_eq
    intro i hi
    rw [BitVec.getLsbD_extractLsb', bit _ (by omega)]
    interval_cases i <;> rfl
  exact ⟨bit 13 (Nat.le_refl 13), fun h => absurd kind h, fun h => absurd (kind.symm.trans h) (by decide)⟩

theorem formatted_debugRead : ∀ reg, Formatted (debugReadCommand reg) := by unfold Formatted; decide

theorem formatted_hostCall : ∀ call : BitVec 5, call ≤ 5 → ∀ n, Formatted (hostCallCommand call n) := by
  intro call h n
  revert call
  unfold Formatted hostCallCommand
  dsimp only
  decide

theorem rdAddrL : Statement .rdAddrL := formatted_read 0
theorem wrAddrL (v : Byte) : Statement (.wrAddrL v) := formatted_write 0 v
theorem rdAddrM : Statement .rdAddrM := formatted_read 1
theorem wrAddrM (v : Byte) : Statement (.wrAddrM v) := formatted_write 1 v
theorem rdAddrH : Statement .rdAddrH := formatted_read 2
theorem wrAddrH (v : Byte) : Statement (.wrAddrH v) := formatted_write 2 v
theorem rdData0 : Statement .rdData0 := formatted_read 3
theorem wrData0 (v : Byte) : Statement (.wrData0 v) := formatted_write 3 v
theorem rdData1 : Statement .rdData1 := formatted_read 4
theorem wrData1 (v : Byte) : Statement (.wrData1 v) := formatted_write 4 v
theorem rdCtrl : Statement .rdCtrl := formatted_read 5
theorem wrCtrl (v : Byte) : Statement (.wrCtrl v) := formatted_write 5 v
theorem rdIen : Statement .rdIen := formatted_read 6
theorem wrIen (v : Byte) : Statement (.wrIen v) := formatted_write 6 v
theorem rdIsr : Statement .rdIsr := formatted_read 7
theorem wrIsr (v : Byte) : Statement (.wrIsr v) := formatted_write 7 v
theorem rdScanlineL : Statement .rdScanlineL := formatted_read 8
theorem wrIrqlineL (v : Byte) : Statement (.wrIrqlineL v) := formatted_write 8 v
theorem rdDcVideo : Statement .rdDcVideo := formatted_read 9
theorem wrDcVideo (v : Byte) : Statement (.wrDcVideo v) := formatted_write 9 v
theorem rdDcHscale : Statement .rdDcHscale := formatted_read 10
theorem wrDcHscale (v : Byte) : Statement (.wrDcHscale v) := formatted_write 10 v
theorem rdDcVscale : Statement .rdDcVscale := formatted_read 11
theorem wrDcVscale (v : Byte) : Statement (.wrDcVscale v) := formatted_write 11 v
theorem rdDcBorder : Statement .rdDcBorder := formatted_read 12
theorem wrDcBorder (v : Byte) : Statement (.wrDcBorder v) := formatted_write 12 v
theorem rdDcHstart : Statement .rdDcHstart := formatted_read 9
theorem wrDcHstart (v : Byte) : Statement (.wrDcHstart v) := formatted_write 9 v
theorem rdDcHstop : Statement .rdDcHstop := formatted_read 10
theorem wrDcHstop (v : Byte) : Statement (.wrDcHstop v) := formatted_write 10 v
theorem rdDcVstart : Statement .rdDcVstart := formatted_read 11
theorem wrDcVstart (v : Byte) : Statement (.wrDcVstart v) := formatted_write 11 v
theorem rdDcVstop : Statement .rdDcVstop := formatted_read 12
theorem wrDcVstop (v : Byte) : Statement (.wrDcVstop v) := formatted_write 12 v
theorem rdFxCtrl : Statement .rdFxCtrl := formatted_read 9
theorem wrFxCtrl (v : Byte) : Statement (.wrFxCtrl v) := formatted_write 9 v
theorem rdFxTilebase : Statement .rdFxTilebase := formatted_read 10
theorem wrFxTilebase (v : Byte) : Statement (.wrFxTilebase v) := formatted_write 10 v
theorem rdFxMapbase : Statement .rdFxMapbase := formatted_read 11
theorem wrFxMapbase (v : Byte) : Statement (.wrFxMapbase v) := formatted_write 11 v
theorem rdFxMult : Statement .rdFxMult := formatted_read 12
theorem wrFxMult (v : Byte) : Statement (.wrFxMult v) := formatted_write 12 v
theorem rdFxXIncrL : Statement .rdFxXIncrL := formatted_read 9
theorem wrFxXIncrL (v : Byte) : Statement (.wrFxXIncrL v) := formatted_write 9 v
theorem rdFxXIncrH : Statement .rdFxXIncrH := formatted_read 10
theorem wrFxXIncrH (v : Byte) : Statement (.wrFxXIncrH v) := formatted_write 10 v
theorem rdFxYIncrL : Statement .rdFxYIncrL := formatted_read 11
theorem wrFxYIncrL (v : Byte) : Statement (.wrFxYIncrL v) := formatted_write 11 v
theorem rdFxYIncrH : Statement .rdFxYIncrH := formatted_read 12
theorem wrFxYIncrH (v : Byte) : Statement (.wrFxYIncrH v) := formatted_write 12 v
theorem rdFxXPosL : Statement .rdFxXPosL := formatted_read 9
theorem wrFxXPosL (v : Byte) : Statement (.wrFxXPosL v) := formatted_write 9 v
theorem rdFxXPosH : Statement .rdFxXPosH := formatted_read 10
theorem wrFxXPosH (v : Byte) : Statement (.wrFxXPosH v) := formatted_write 10 v
theorem rdFxYPosL : Statement .rdFxYPosL := formatted_read 11
theorem wrFxYPosL (v : Byte) : Statement (.wrFxYPosL v) := formatted_write 11 v
theorem rdFxYPosH : Statement .rdFxYPosH := formatted_read 12
theorem wrFxYPosH (v : Byte) : Statement (.wrFxYPosH v) := formatted_write 12 v
theorem rdFxXPosS : Statement .rdFxXPosS := formatted_read 9
theorem wrFxXPosS (v : Byte) : Statement (.wrFxXPosS v) := formatted_write 9 v
theorem rdFxYPosS : Statement .rdFxYPosS := formatted_read 10
theorem wrFxYPosS (v : Byte) : Statement (.wrFxYPosS v) := formatted_write 10 v
theorem rdFxPolyFillL : Statement .rdFxPolyFillL := formatted_read 11
theorem wrFxPolyFillL (v : Byte) : Statement (.wrFxPolyFillL v) := formatted_write 11 v
theorem rdFxPolyFillH : Statement .rdFxPolyFillH := formatted_read 12
theorem wrFxPolyFillH (v : Byte) : Statement (.wrFxPolyFillH v) := formatted_write 12 v
theorem rdFxAccumReset : Statement .rdFxAccumReset := formatted_read 9
theorem wrFxCacheL (v : Byte) : Statement (.wrFxCacheL v) := formatted_write 9 v
theorem rdFxAccum : Statement .rdFxAccum := formatted_read 10
theorem wrFxCacheM (v : Byte) : Statement (.wrFxCacheM v) := formatted_write 10 v
theorem rdFxCacheH : Statement .rdFxCacheH := formatted_read 11
theorem wrFxCacheH (v : Byte) : Statement (.wrFxCacheH v) := formatted_write 11 v
theorem rdFxCacheU : Statement .rdFxCacheU := formatted_read 12
theorem wrFxCacheU (v : Byte) : Statement (.wrFxCacheU v) := formatted_write 12 v
theorem rdUndef0 (_bank : BitVec 6) : Statement (.rdUndef0 _bank) := formatted_read 9
theorem wrUndef0 (_bank : BitVec 6) (v : Byte) : Statement (.wrUndef0 _bank v) := formatted_write 9 v
theorem rdUndef1 (_bank : BitVec 6) : Statement (.rdUndef1 _bank) := formatted_read 10
theorem wrUndef1 (_bank : BitVec 6) (v : Byte) : Statement (.wrUndef1 _bank v) := formatted_write 10 v
theorem rdUndef2 (_bank : BitVec 6) : Statement (.rdUndef2 _bank) := formatted_read 11
theorem wrUndef2 (_bank : BitVec 6) (v : Byte) : Statement (.wrUndef2 _bank v) := formatted_write 11 v
theorem rdUndef3 (_bank : BitVec 6) : Statement (.rdUndef3 _bank) := formatted_read 12
theorem wrUndef3 (_bank : BitVec 6) (v : Byte) : Statement (.wrUndef3 _bank v) := formatted_write 12 v
theorem rdL0Config : Statement .rdL0Config := formatted_read 13
theorem wrL0Config (v : Byte) : Statement (.wrL0Config v) := formatted_write 13 v
theorem rdL0Mapbase : Statement .rdL0Mapbase := formatted_read 14
theorem wrL0Mapbase (v : Byte) : Statement (.wrL0Mapbase v) := formatted_write 14 v
theorem rdL0Tilebase : Statement .rdL0Tilebase := formatted_read 15
theorem wrL0Tilebase (v : Byte) : Statement (.wrL0Tilebase v) := formatted_write 15 v
theorem rdL0HscrollL : Statement .rdL0HscrollL := formatted_read 16
theorem wrL0HscrollL (v : Byte) : Statement (.wrL0HscrollL v) := formatted_write 16 v
theorem rdL0HscrollH : Statement .rdL0HscrollH := formatted_read 17
theorem wrL0HscrollH (v : Byte) : Statement (.wrL0HscrollH v) := formatted_write 17 v
theorem rdL0VscrollL : Statement .rdL0VscrollL := formatted_read 18
theorem wrL0VscrollL (v : Byte) : Statement (.wrL0VscrollL v) := formatted_write 18 v
theorem rdL0VscrollH : Statement .rdL0VscrollH := formatted_read 19
theorem wrL0VscrollH (v : Byte) : Statement (.wrL0VscrollH v) := formatted_write 19 v
theorem rdL1Config : Statement .rdL1Config := formatted_read 20
theorem wrL1Config (v : Byte) : Statement (.wrL1Config v) := formatted_write 20 v
theorem rdL1Mapbase : Statement .rdL1Mapbase := formatted_read 21
theorem wrL1Mapbase (v : Byte) : Statement (.wrL1Mapbase v) := formatted_write 21 v
theorem rdL1Tilebase : Statement .rdL1Tilebase := formatted_read 22
theorem wrL1Tilebase (v : Byte) : Statement (.wrL1Tilebase v) := formatted_write 22 v
theorem rdL1HscrollL : Statement .rdL1HscrollL := formatted_read 23
theorem wrL1HscrollL (v : Byte) : Statement (.wrL1HscrollL v) := formatted_write 23 v
theorem rdL1HscrollH : Statement .rdL1HscrollH := formatted_read 24
theorem wrL1HscrollH (v : Byte) : Statement (.wrL1HscrollH v) := formatted_write 24 v
theorem rdL1VscrollL : Statement .rdL1VscrollL := formatted_read 25
theorem wrL1VscrollL (v : Byte) : Statement (.wrL1VscrollL v) := formatted_write 25 v
theorem rdL1VscrollH : Statement .rdL1VscrollH := formatted_read 26
theorem wrL1VscrollH (v : Byte) : Statement (.wrL1VscrollH v) := formatted_write 26 v
theorem rdAudioCtrl : Statement .rdAudioCtrl := formatted_read 27
theorem wrAudioCtrl (v : Byte) : Statement (.wrAudioCtrl v) := formatted_write 27 v
theorem rdAudioRate : Statement .rdAudioRate := formatted_read 28
theorem wrAudioRate (v : Byte) : Statement (.wrAudioRate v) := formatted_write 28 v
theorem rdAudioData : Statement .rdAudioData := formatted_read 29
theorem wrAudioData (v : Byte) : Statement (.wrAudioData v) := formatted_write 29 v
theorem rdSpiData : Statement .rdSpiData := formatted_read 30
theorem wrSpiData (v : Byte) : Statement (.wrSpiData v) := formatted_write 30 v
theorem rdSpiCtrl : Statement .rdSpiCtrl := formatted_read 31
theorem wrSpiCtrl (v : Byte) : Statement (.wrSpiCtrl v) := formatted_write 31 v
theorem drdAddrL : Statement .drdAddrL := formatted_debugRead 0
theorem drdAddrM : Statement .drdAddrM := formatted_debugRead 1
theorem drdAddrH : Statement .drdAddrH := formatted_debugRead 2
theorem drdData0 : Statement .drdData0 := formatted_debugRead 3
theorem drdData1 : Statement .drdData1 := formatted_debugRead 4
theorem drdCtrl : Statement .drdCtrl := formatted_debugRead 5
theorem drdIen : Statement .drdIen := formatted_debugRead 6
theorem drdIsr : Statement .drdIsr := formatted_debugRead 7
theorem drdScanlineL : Statement .drdScanlineL := formatted_debugRead 8
theorem drdComp9 : Statement .drdComp9 := formatted_debugRead 9
theorem drdComp10 : Statement .drdComp10 := formatted_debugRead 10
theorem drdComp11 : Statement .drdComp11 := formatted_debugRead 11
theorem drdComp12 : Statement .drdComp12 := formatted_debugRead 12
theorem drdL0Config : Statement .drdL0Config := formatted_debugRead 13
theorem drdL0Mapbase : Statement .drdL0Mapbase := formatted_debugRead 14
theorem drdL0Tilebase : Statement .drdL0Tilebase := formatted_debugRead 15
theorem drdL0HscrollL : Statement .drdL0HscrollL := formatted_debugRead 16
theorem drdL0HscrollH : Statement .drdL0HscrollH := formatted_debugRead 17
theorem drdL0VscrollL : Statement .drdL0VscrollL := formatted_debugRead 18
theorem drdL0VscrollH : Statement .drdL0VscrollH := formatted_debugRead 19
theorem drdL1Config : Statement .drdL1Config := formatted_debugRead 20
theorem drdL1Mapbase : Statement .drdL1Mapbase := formatted_debugRead 21
theorem drdL1Tilebase : Statement .drdL1Tilebase := formatted_debugRead 22
theorem drdL1HscrollL : Statement .drdL1HscrollL := formatted_debugRead 23
theorem drdL1HscrollH : Statement .drdL1HscrollH := formatted_debugRead 24
theorem drdL1VscrollL : Statement .drdL1VscrollL := formatted_debugRead 25
theorem drdL1VscrollH : Statement .drdL1VscrollH := formatted_debugRead 26
theorem drdAudioCtrl : Statement .drdAudioCtrl := formatted_debugRead 27
theorem drdAudioRate : Statement .drdAudioRate := formatted_debugRead 28
theorem drdAudioData : Statement .drdAudioData := formatted_debugRead 29
theorem drdSpiData : Statement .drdSpiData := formatted_debugRead 30
theorem drdSpiCtrl : Statement .drdSpiCtrl := formatted_debugRead 31
theorem hostReset : Statement .hostReset := formatted_hostCall 0 (by decide) 0
theorem hostStep (n : Nat) : Statement (.hostStep n) := formatted_hostCall 1 (by decide) n
theorem hostIrqQuery : Statement .hostIrqQuery := formatted_hostCall 2 (by decide) 0
theorem hostFramebuffer : Statement .hostFramebuffer := formatted_hostCall 3 (by decide) 0
theorem hostDump : Statement .hostDump := formatted_hostCall 4 (by decide) 0
theorem hostSkipQuery : Statement .hostSkipQuery := formatted_hostCall 5 (by decide) 0

end Sys2Proof.Laws.CommandFormat
end

