-- ==== Sys2Proof/Laws/Scan.lean ====
section
/-! SUPPORT. Laws.Scan: what a line render and a tick can do, once each. -/

namespace Sys2Proof.Machine

/-- `Charge` never touches the row or the collision bits. -/
theorem charge_eq (k : Nat) (w : SpriteWork) :
    charge k w = { w with budget := w.budget - k, stopped := decide (w.budget - k ≤ 0) } := rfl

/-- Drawing a pixel keeps the length of the row. -/
theorem drawSpritePixel_length (sp : Sprite) (ox : Nat) (c : Byte) (w : SpriteWork) :
    (drawSpritePixel sp ox c w).row.length = w.row.length := by
  unfold drawSpritePixel
  split <;> simp

/-- `t` is `s` after renders: the framebuffer and the collision accumulator at most. -/
structure RendersOnly (s t : State) : Prop where
  rest : t = { s with collAcc := t.collAcc, fb := t.fb }
  wf : FrameLines.wf s.fb = true → FrameLines.wf t.fb = true

theorem lineOf_length (colour : Nat → Rgb) : (lineOf colour).length = lineBytes := by
  have h : ∀ l : List Nat, (l.flatMap fun x => pixelBytes (colour x)).length = 4 * l.length := by
    intro l
    induction l with
    | nil => rfl
    | cons x xs ih =>
      rw [List.flatMap_cons, List.length_append, ih, List.length_cons]
      show 4 + 4 * xs.length = 4 * (xs.length + 1)
      omega
  unfold lineOf
  rw [h, List.length_range]
  rfl

theorem putLine_renders (y : Nat) (hy : y < screenH) (colour : Nat → Rgb) (s : State) :
    RendersOnly s (s.putLine y (lineOf colour)) :=
  ⟨rfl, FrameLines.wf_put y _ s.fb hy (lineOf_length colour)⟩

/-- `RenderLine` changes the framebuffer and the collision accumulator at most. -/
theorem renderLine_renders (y : Nat) (s : State) : RendersOnly s (renderLine y s) := by
  unfold renderLine
  split
  · exact ⟨rfl, id⟩
  · rename_i hy
    have hy : y < screenH := by omega
    split
    · unfold renderSkipped
      split <;> exact ⟨rfl, id⟩
    · unfold renderFull
      split
      · exact putLine_renders y hy _ s
      · split
        · exact ⟨rfl, FrameLines.wf_put y _ s.fb hy (lineOf_length _)⟩
        · exact putLine_renders y hy _ s

/-- `t` is `s` after ticks: the scan counters, the interrupt status, the collision accumulator and the
framebuffer at most, the framebuffer keeping its form. -/
structure TicksOnly (s t : State) : Prop where
  rest : t = { s with scan := t.scan, isr := t.isr, collAcc := t.collAcc, fb := t.fb }
  wf : FrameLines.wf s.fb = true → FrameLines.wf t.fb = true

theorem TicksOnly.refl (s : State) : TicksOnly s s := ⟨rfl, id⟩

theorem TicksOnly.trans {s t u : State} (h : TicksOnly s t) (k : TicksOnly t u) : TicksOnly s u :=
  ⟨by rw [k.rest, h.rest], fun hw => k.wf (h.wf hw)⟩

theorem RendersOnly.ticks {s t : State} (h : RendersOnly s t) : TicksOnly s t :=
  ⟨by rw [h.rest], h.wf⟩

theorem setScan_ticks (x : Scan) (s : State) : TicksOnly s (s.setScan x) := ⟨rfl, id⟩

theorem lineCompare_ticks (l : Int) (c : BitVec 9) (s : State) : TicksOnly s (lineCompare l c s) := by
  unfold lineCompare
  split
  · exact ⟨rfl, id⟩
  · exact TicksOnly.refl s

theorem boundaryIf_ticks (active : Bool) (s : State) : TicksOnly s (boundaryIf active s).1 := by
  unfold boundaryIf
  split
  · exact ⟨rfl, id⟩
  · exact TicksOnly.refl s

theorem renderHalfLine_renders (s : State) : RendersOnly s (renderHalfLine s) := by
  unfold renderHalfLine
  dsimp only
  split
  · exact renderLine_renders _ s
  · exact ⟨rfl, id⟩

/-- A render that runs only while its raster is active. -/
theorem rendered_ticks {s r : State} (active : Bool) (h : RendersOnly s r) :
    TicksOnly s (if active then r else s) := by
  split
  · exact h.ticks
  · exact TicksOnly.refl s

theorem wrapped_ticks {s m : State} {wraps : Prop} [Decidable wraps] (active : Bool) (h : TicksOnly s m) :
    TicksOnly s (if wraps then boundaryIf active m else (m, false)).1 := by
  split
  · exact h.trans (boundaryIf_ticks _ m)
  · exact h

theorem compared_ticks {s m : State} (active : Bool) (l : Int) (c : BitVec 9) (h : TicksOnly s m) :
    TicksOnly s (if active then lineCompare l c m else m) := by
  split
  · exact h.trans (lineCompare_ticks _ _ _)
  · exact h

theorem tickVga_ticks (s : State) : TicksOnly s (tickVga s).1 := by
  unfold tickVga
  split
  · exact compared_ticks _ _ _ (wrapped_ticks _
      ((rendered_ticks _ (renderLine_renders _ s)).trans (setScan_ticks _ _)))
  · exact setScan_ticks _ s

theorem tickNtsc_ticks (s : State) : TicksOnly s (tickNtsc s).1 := by
  unfold tickNtsc
  split
  · exact compared_ticks _ _ _ (wrapped_ticks _
      ((rendered_ticks _ (renderHalfLine_renders s)).trans (setScan_ticks _ _)))
  · exact setScan_ticks _ s

/-- A tick changes the scan counters, the interrupt status, the collision accumulator and the framebuffer
at most. -/
theorem tick_ticks (s : State) : TicksOnly s (tick s).1 :=
  (tickVga_ticks s).trans (tickNtsc_ticks _)

end Sys2Proof.Machine
end

