-- ==== Sys2Proof/Tests/Slice0.lean ====
section
/-! SUPPORT. Tests: the author's own checks. Well-formedness refuses what it should; the word of every row of
spec/opcode_table.json, written out from the spec's encodings, decodes to its operation; the worked examples
of the spec's rules, one operation each; and for every statement with hypotheses a state and operands that
meet them, at the ends of their ranges. Every expected value is the spec's own example or hand calculation
from the rule named. -/

namespace Sys2Proof.Tests

set_option Elab.async false

open Sys2Proof.Machine

/-! ## Helpers -/

/-- Each word decodes, under its bank, to its operation. -/
def decodesTo (rows : List (BitVec 6 × BitVec 16 × Instr)) : Bool :=
  rows.all fun row =>
    match decode row.1 ⟨row.2.1, 0⟩ with
    | .ok i => decide (i = row.2.2)
    | .error _ => false

/-- Part of the next state, where there is one. -/
def after (a : Answer) (part : State → α) : Option α :=
  match a with
  | .next t => some (part t)
  | .fault _ => none
  | .refused _ => none

/-- The state after reset with some VRAM bytes listed. -/
def withBytes (mem : List Host.Cell) : State := { State.reset with mem := mem }

/-- A port at an address with an increment index. -/
def portAt (addr : VAddr) (inc : BitVec 5) (rdData : Byte) : Port := ⟨addr, inc, false, false, rdData⟩

/-- The state after reset with FX_CTRL set. -/
def fxState (ctrl : Byte) : State := { State.reset with comp := State.reset.comp.set 8 ctrl }

/-- The state after reset with one operation presented. -/
def presented (word : BitVec 16) : State := { State.reset with queue := [⟨⟨word, 0⟩, Inputs.idle⟩] }

/-! ## Well-formedness -/

theorem test_rdUndef0_in_a_defined_bank_is_ill_formed : (Instr.rdUndef0 6).wellFormed = false := by decide +kernel
theorem test_wrUndef0_in_a_defined_bank_is_ill_formed : (Instr.wrUndef0 6 0).wellFormed = false := by decide +kernel
theorem test_rdUndef1_in_a_defined_bank_is_ill_formed : (Instr.rdUndef1 0).wellFormed = false := by decide +kernel
theorem test_wrUndef1_in_a_defined_bank_is_ill_formed : (Instr.wrUndef1 0 0).wellFormed = false := by decide +kernel
theorem test_rdUndef2_in_a_defined_bank_is_ill_formed : (Instr.rdUndef2 3).wellFormed = false := by decide +kernel
theorem test_wrUndef2_in_a_defined_bank_is_ill_formed : (Instr.wrUndef2 3 0xFF).wellFormed = false := by decide +kernel
theorem test_rdUndef3_in_a_defined_bank_is_ill_formed : (Instr.rdUndef3 1).wellFormed = false := by decide +kernel
theorem test_wrUndef3_in_a_defined_bank_is_ill_formed : (Instr.wrUndef3 1 0).wellFormed = false := by decide +kernel

theorem test_undefined_banks_are_well_formed :
    (Instr.rdUndef0 7).wellFormed = true ∧ (Instr.wrUndef3 63 0xFF).wellFormed = true := by decide

/-! ## Decoding: one written-out word for every row of the opcode table -/

theorem test_decode_ports_and_control :
    decodesTo [(0, 0x0000, .rdAddrL), (0, 0x40A5, .wrAddrL 0xA5), (0, 0x0100, .rdAddrM), (0, 0x41A5, .wrAddrM 0xA5)] = true ∧
    decodesTo [(0, 0x0200, .rdAddrH), (0, 0x42A5, .wrAddrH 0xA5), (0, 0x0300, .rdData0), (0, 0x43A5, .wrData0 0xA5)] = true ∧
    decodesTo [(0, 0x0400, .rdData1), (0, 0x44A5, .wrData1 0xA5), (0, 0x0500, .rdCtrl), (0, 0x45A5, .wrCtrl 0xA5)] = true ∧
    decodesTo [(0, 0x0600, .rdIen), (0, 0x46A5, .wrIen 0xA5), (0, 0x0700, .rdIsr), (0, 0x47A5, .wrIsr 0xA5)] = true ∧
    decodesTo [(0, 0x0800, .rdScanlineL), (0, 0x48A5, .wrIrqlineL 0xA5)] = true := by decide +kernel

theorem test_decode_display_control :
    decodesTo [(0, 0x0900, .rdDcVideo), (0, 0x49A5, .wrDcVideo 0xA5), (0, 0x0A00, .rdDcHscale), (0, 0x4AA5, .wrDcHscale 0xA5)] = true ∧
    decodesTo [(0, 0x0B00, .rdDcVscale), (0, 0x4BA5, .wrDcVscale 0xA5), (0, 0x0C00, .rdDcBorder), (0, 0x4CA5, .wrDcBorder 0xA5)] = true ∧
    decodesTo [(1, 0x0900, .rdDcHstart), (1, 0x49A5, .wrDcHstart 0xA5), (1, 0x0A00, .rdDcHstop), (1, 0x4AA5, .wrDcHstop 0xA5)] = true ∧
    decodesTo [(1, 0x0B00, .rdDcVstart), (1, 0x4BA5, .wrDcVstart 0xA5), (1, 0x0C00, .rdDcVstop), (1, 0x4CA5, .wrDcVstop 0xA5)] = true := by decide +kernel

theorem test_decode_fx_registers :
    decodesTo [(2, 0x0900, .rdFxCtrl), (2, 0x49A5, .wrFxCtrl 0xA5), (2, 0x0A00, .rdFxTilebase), (2, 0x4AA5, .wrFxTilebase 0xA5)] = true ∧
    decodesTo [(2, 0x0B00, .rdFxMapbase), (2, 0x4BA5, .wrFxMapbase 0xA5), (2, 0x0C00, .rdFxMult), (2, 0x4CA5, .wrFxMult 0xA5)] = true ∧
    decodesTo [(3, 0x0900, .rdFxXIncrL), (3, 0x49A5, .wrFxXIncrL 0xA5), (3, 0x0A00, .rdFxXIncrH), (3, 0x4AA5, .wrFxXIncrH 0xA5)] = true ∧
    decodesTo [(3, 0x0B00, .rdFxYIncrL), (3, 0x4BA5, .wrFxYIncrL 0xA5), (3, 0x0C00, .rdFxYIncrH), (3, 0x4CA5, .wrFxYIncrH 0xA5)] = true ∧
    decodesTo [(4, 0x0900, .rdFxXPosL), (4, 0x49A5, .wrFxXPosL 0xA5), (4, 0x0A00, .rdFxXPosH), (4, 0x4AA5, .wrFxXPosH 0xA5)] = true ∧
    decodesTo [(4, 0x0B00, .rdFxYPosL), (4, 0x4BA5, .wrFxYPosL 0xA5), (4, 0x0C00, .rdFxYPosH), (4, 0x4CA5, .wrFxYPosH 0xA5)] = true ∧
    decodesTo [(5, 0x0900, .rdFxXPosS), (5, 0x49A5, .wrFxXPosS 0xA5), (5, 0x0A00, .rdFxYPosS), (5, 0x4AA5, .wrFxYPosS 0xA5)] = true ∧
    decodesTo [(5, 0x0B00, .rdFxPolyFillL), (5, 0x4BA5, .wrFxPolyFillL 0xA5), (5, 0x0C00, .rdFxPolyFillH), (5, 0x4CA5, .wrFxPolyFillH 0xA5)] = true ∧
    decodesTo [(6, 0x0900, .rdFxAccumReset), (6, 0x49A5, .wrFxCacheL 0xA5), (6, 0x0A00, .rdFxAccum), (6, 0x4AA5, .wrFxCacheM 0xA5)] = true ∧
    decodesTo [(6, 0x0B00, .rdFxCacheH), (6, 0x4BA5, .wrFxCacheH 0xA5), (6, 0x0C00, .rdFxCacheU), (6, 0x4CA5, .wrFxCacheU 0xA5)] = true := by decide +kernel

theorem test_decode_undefined_slots :
    decodesTo [(63, 0x0900, .rdUndef0 63), (63, 0x49A5, .wrUndef0 63 0xA5), (63, 0x0A00, .rdUndef1 63), (63, 0x4AA5, .wrUndef1 63 0xA5)] = true ∧
    decodesTo [(63, 0x0B00, .rdUndef2 63), (63, 0x4BA5, .wrUndef2 63 0xA5), (63, 0x0C00, .rdUndef3 63), (63, 0x4CA5, .wrUndef3 63 0xA5)] = true := by decide +kernel

theorem test_decode_layers :
    decodesTo [(0, 0x0D00, .rdL0Config), (0, 0x4DA5, .wrL0Config 0xA5), (0, 0x0E00, .rdL0Mapbase), (0, 0x4EA5, .wrL0Mapbase 0xA5)] = true ∧
    decodesTo [(0, 0x0F00, .rdL0Tilebase), (0, 0x4FA5, .wrL0Tilebase 0xA5), (0, 0x1000, .rdL0HscrollL), (0, 0x50A5, .wrL0HscrollL 0xA5)] = true ∧
    decodesTo [(0, 0x1100, .rdL0HscrollH), (0, 0x51A5, .wrL0HscrollH 0xA5), (0, 0x1200, .rdL0VscrollL), (0, 0x52A5, .wrL0VscrollL 0xA5)] = true ∧
    decodesTo [(0, 0x1300, .rdL0VscrollH), (0, 0x53A5, .wrL0VscrollH 0xA5), (0, 0x1400, .rdL1Config), (0, 0x54A5, .wrL1Config 0xA5)] = true ∧
    decodesTo [(0, 0x1500, .rdL1Mapbase), (0, 0x55A5, .wrL1Mapbase 0xA5), (0, 0x1600, .rdL1Tilebase), (0, 0x56A5, .wrL1Tilebase 0xA5)] = true ∧
    decodesTo [(0, 0x1700, .rdL1HscrollL), (0, 0x57A5, .wrL1HscrollL 0xA5), (0, 0x1800, .rdL1HscrollH), (0, 0x58A5, .wrL1HscrollH 0xA5)] = true ∧
    decodesTo [(0, 0x1900, .rdL1VscrollL), (0, 0x59A5, .wrL1VscrollL 0xA5), (0, 0x1A00, .rdL1VscrollH), (0, 0x5AA5, .wrL1VscrollH 0xA5)] = true := by decide +kernel

theorem test_decode_forwarded :
    decodesTo [(0, 0x1B00, .rdAudioCtrl), (0, 0x5BA5, .wrAudioCtrl 0xA5), (0, 0x1C00, .rdAudioRate), (0, 0x5CA5, .wrAudioRate 0xA5)] = true ∧
    decodesTo [(0, 0x1D00, .rdAudioData), (0, 0x5DA5, .wrAudioData 0xA5), (0, 0x1E00, .rdSpiData), (0, 0x5EA5, .wrSpiData 0xA5)] = true ∧
    decodesTo [(0, 0x1F00, .rdSpiCtrl), (0, 0x5FA5, .wrSpiCtrl 0xA5)] = true := by decide +kernel

theorem test_decode_debug_reads :
    decodesTo [(0, 0x8000, .drdAddrL), (0, 0x8100, .drdAddrM), (0, 0x8200, .drdAddrH), (0, 0x8300, .drdData0)] = true ∧
    decodesTo [(0, 0x8400, .drdData1), (0, 0x8500, .drdCtrl), (0, 0x8600, .drdIen), (0, 0x8700, .drdIsr)] = true ∧
    decodesTo [(0, 0x8800, .drdScanlineL), (0, 0x8900, .drdComp9), (0, 0x8A00, .drdComp10), (0, 0x8B00, .drdComp11)] = true ∧
    decodesTo [(0, 0x8C00, .drdComp12), (0, 0x8D00, .drdL0Config), (0, 0x8E00, .drdL0Mapbase), (0, 0x8F00, .drdL0Tilebase)] = true ∧
    decodesTo [(0, 0x9000, .drdL0HscrollL), (0, 0x9100, .drdL0HscrollH), (0, 0x9200, .drdL0VscrollL), (0, 0x9300, .drdL0VscrollH)] = true ∧
    decodesTo [(0, 0x9400, .drdL1Config), (0, 0x9500, .drdL1Mapbase), (0, 0x9600, .drdL1Tilebase), (0, 0x9700, .drdL1HscrollL)] = true ∧
    decodesTo [(0, 0x9800, .drdL1HscrollH), (0, 0x9900, .drdL1VscrollL), (0, 0x9A00, .drdL1VscrollH), (0, 0x9B00, .drdAudioCtrl)] = true ∧
    decodesTo [(0, 0x9C00, .drdAudioRate), (0, 0x9D00, .drdAudioData), (0, 0x9E00, .drdSpiData), (0, 0x9F00, .drdSpiCtrl)] = true := by decide +kernel

theorem test_decode_host_calls :
    decodesTo [(0, 0xC000, .hostReset), (0, 0xC100, .hostStep 0), (0, 0xC200, .hostIrqQuery), (0, 0xC300, .hostFramebuffer)] = true ∧
    decodesTo [(0, 0xC400, .hostDump), (0, 0xC500, .hostSkipQuery)] = true := by decide +kernel

/-! ## The spec's worked examples -/

/-- R140, R142, R144: "ADDR[0] = 0x12345 ... returns 0x45", "returns 0x23"; "ADDR[0] = 0x1FA00, INC[0] = 2 ...
returns 0x11". -/
theorem test_address_reads :
    after (exec .rdAddrL { State.reset with port0 := portAt 0x12345 0 0 }) (·.result) = some (.byte 0x45) ∧
    after (exec .rdAddrM { State.reset with port0 := portAt 0x12345 0 0 }) (·.result) = some (.byte 0x23) ∧
    after (exec .rdAddrH { State.reset with port0 := portAt 0x1FA00 2 0 }) (·.result) = some (.byte 0x11) := by
  decide +kernel

/-- R141: "ADDR[1] = 0x00100, V[0x00107] = 0xAB, WR ADDR_L, #0x07 with ADDRSEL = 1". -/
theorem test_wrAddrL_reprimes_from_the_new_address :
    after (exec (.wrAddrL 0x07)
      { withBytes [(0x107, 0xAB)] with addrSel := .port1, port1 := portAt 0x00100 0 0 })
      (fun t => (t.port1.addr, t.port1.rdData)) = some (0x00107, 0xAB) := by decide +kernel

/-- R141: with HOP16 set a write on port 1 latches its low two bits. -/
theorem test_wrAddrL_latches_the_hop_alignment :
    after (exec (.wrAddrL 0x07) { fxState 0x08 with mem := [(7, 0)], addrSel := .port1 })
      (·.fx.hopAlign) = some 3 := by decide +kernel

/-- R143: "ADDR[0] = 0x00045, WR ADDR_M, #0xFA: ADDR[0] = 0x0FA45". -/
theorem test_wrAddrM :
    after (exec (.wrAddrM 0xFA) { State.reset with port0 := portAt 0x00045 0 0 }) (·.port0.addr) =
      some 0x0FA45 := by decide +kernel

/-- R145: "WR ADDR_H, #0x11: address bit 16 set, INC[p] = 2". -/
theorem test_wrAddrH :
    after (exec (.wrAddrH 0x11) { State.reset with port0 := portAt 0x00045 0 0 })
      (fun t => (t.port0.addr, t.port0.inc, t.port0.nib, t.port0.nibInc)) =
      some (0x10045, 2, false, false) := by decide +kernel

/-- R146: "RD DATA0 returns 0x11 and leaves ADDR[0] = 0x101, RDDATA[0] = 0x22". -/
theorem test_rdData0_returns_the_cached_byte :
    after (exec .rdData0 { withBytes [(0x100, 0x11), (0x101, 0x22)] with port0 := portAt 0x100 2 0x11 })
      (fun t => (t.result, t.port0.addr, t.port0.rdData)) = some (.byte 0x11, 0x101, 0x22) := by decide +kernel

/-- R147, R83: port 1 with step -1 wraps from address 0 to 0x1FFFF. -/
theorem test_rdData1_wraps :
    after (exec .rdData1 { State.reset with port1 := portAt 0 3 0x77 })
      (fun t => (t.result, t.port1.addr, t.port1.rdData)) = some (.byte 0x77, 0x1FFFF, 0) := by decide +kernel

/-- R148: a store goes to the address before the increment; R86: a palette store emits no event. -/
theorem test_wrData0_stores_before_the_increment :
    after (exec (.wrData0 0xFF) { State.reset with port0 := portAt 0x1FA02 2 0 })
      (fun t => (t.readByte 0x1FA02, t.port0.addr, t.events)) = some (0xFF, 0x1FA03, []) := by decide +kernel

/-- R86: "AudioWrite(reg = a' - AUDIO_BASE, value = v)", here at the window's last byte. -/
theorem test_wrData1_emits_audio_writes :
    after (exec (.wrData1 0x34) { State.reset with port1 := portAt 0x1F9FF 0 0 })
      (fun t => (t.readByte 0x1F9FF, t.events)) = some (0x34, [.audioWrite 63 0x34]) := by decide +kernel

/-- R150: "DCSEL = 2, ADDRSEL = 1: returns 0x05". -/
theorem test_rdCtrl :
    after (exec .rdCtrl { State.reset with dcsel := 2, addrSel := .port1 }) (·.result) = some (.byte 0x05) := by
  decide +kernel

/-- R151: "WR CTRL, #0x85 resets and then selects bank 2, port 1". -/
theorem test_wrCtrl_resets_then_selects :
    after (exec (.wrCtrl 0x85) { State.reset with ien := 0xF, dcsel := 5 })
      (fun t => (t.dcsel, t.addrSel, t.ien)) = some (2, .port1, 0) ∧
    after (exec (.wrCtrl 0x04) { State.reset with ien := 0xF })
      (fun t => (t.dcsel, t.addrSel, t.ien)) = some (2, .port0, 0xF) := by decide +kernel

/-- R152: "IEN = 0x3, IRQLINE = 0x100, SCANLINE = 0x0F0: returns 0x83"; R160: "VGA_Y = 300 ... returns 0x2C". -/
theorem test_rdIen_and_rdScanlineL :
    after (exec .rdIen { State.reset with ien := 3, irqLine := 0x100, scan := ⟨0, 0xF0, 0, 0, false⟩ })
      (·.result) = some (.byte 0x83) ∧
    after (exec .rdScanlineL { State.reset with scan := ⟨0, 300, 0, 0, false⟩ }) (·.result) =
      some (.byte 0x2C) := by decide +kernel

/-- R153 and R161 by hand: bits 6:4 are ignored; bit 8 and bits 7:0 of the compare value are separate. -/
theorem test_wrIen_and_wrIrqlineL :
    after (exec (.wrIen 0xF1) { State.reset with irqLine := 0x0AA }) (fun t => (t.irqLine, t.ien)) =
      some (0x1AA, 1) ∧
    after (exec (.wrIrqlineL 100) { State.reset with irqLine := 0x1AA }) (·.irqLine) = some 0x164 := by decide +kernel

/-- R158: "after a frame in which sprites with mask 0x1 collided: returns 0x15". -/
theorem test_rdIsr :
    after (exec .rdIsr { State.reset with isr := ⟨true, false, true, 1⟩ }) (·.result) = some (.byte 0x15) := by
  decide +kernel

/-- R159: write-one-to-clear; the collision nibble stays. -/
theorem test_wrIsr :
    after (exec (.wrIsr 0xFD) { State.reset with isr := ⟨true, true, true, 9⟩ }) (·.isr) =
      some ⟨false, true, false, 9⟩ := by decide +kernel

/-- R390: the output is the OR over the sources of status and enable, AFLOW being the live input. -/
theorem test_hostIrqQuery :
    after (exec .hostIrqQuery { State.reset with ien := 8, inputs := { Inputs.idle with aflow := true } })
      (·.result) = some (.flag true) ∧
    after (exec .hostIrqQuery { State.reset with ien := 6, isr := ⟨true, false, false, 0⟩ })
      (·.result) = some (.flag false) := by decide +kernel

/-- R391: `SKIP?` returns SKIP_IN. -/
theorem test_hostSkipQuery :
    after (exec .hostSkipQuery { State.reset with inputs := { Inputs.idle with skip := true } }) (·.result) =
      some (.flag true) := by decide +kernel

/-- R181, R182: bit 7 is FIELD whatever is written. -/
theorem test_dcVideo :
    after (exec (.wrDcVideo 0x71) { State.reset with scan := ⟨0, 0, 0, 600, true⟩ }) (·.comp[0]) = some 0xF1 ∧
    after (exec .rdDcVideo State.reset) (·.result) = some (.byte 0x00) := by decide +kernel

/-- R183, R185, R193, R197: "after reset returns 0x80", "0x80", "0xA0", "0xF0". -/
theorem test_display_control_reads_after_reset :
    after (exec .rdDcHscale State.reset) (·.result) = some (.byte 0x80) ∧
    after (exec .rdDcVscale State.reset) (·.result) = some (.byte 0x80) ∧
    after (exec .rdDcHstop State.reset) (·.result) = some (.byte 0xA0) ∧
    after (exec .rdDcVstop State.reset) (·.result) = some (.byte 0xF0) := by decide +kernel

/-- R190: "RDC 63, 0 returns VERSION_BYTES[0] (default 0x56)"; R189: the byte is kept. -/
theorem test_undefined_slots :
    after (exec (.rdUndef0 63) State.reset) (·.result) = some (.byte 0x56) ∧
    after (exec (.wrUndef1 7 0x99) State.reset) (·.comp[29]) = some 0x99 := by decide +kernel

/-- R206: "cache = 34 12 02 00, FX_ACC = 10, WR FX_MULT, #0x40: FX_ACC = 9330". -/
theorem test_wrFxMult_accumulates :
    after (exec (.wrFxMult 0x40)
      { State.reset with fx := { Fx.reset with cache := #v[0x34, 0x12, 0x02, 0x00], acc := 10 } })
      (·.fx.acc) = some 9330 := by decide +kernel

/-- R206: "a write with both bits 7 and 6 set leaves FX_ACC = 0"; bits 3:1 load the cache indices. -/
theorem test_wrFxMult_resets_last :
    after (exec (.wrFxMult 0xCE)
      { State.reset with fx := { Fx.reset with cache := #v[0x34, 0x12, 0x02, 0x00], acc := 10 } })
      (fun t => (t.fx.acc, t.fx.cByte, t.fx.cNib)) = some (0, 3, true) := by decide +kernel

/-- R224, R225: a read of slot 24 zeroes the accumulator, of slot 25 subtracts under SUBTRACT. -/
theorem test_accumulator_reads :
    after (exec .rdFxAccumReset { State.reset with fx := { Fx.reset with acc := 10 } })
      (fun t => (t.fx.acc, t.result)) = some (0, .byte 0x56) ∧
    after (exec .rdFxAccum
      { State.reset with comp := State.reset.comp.set 11 0x20
                         fx := { Fx.reset with cache := #v[0x34, 0x12, 0x02, 0x00], acc := 10 } })
      (·.fx.acc) = some (10 - 9320) := by decide +kernel

/-- R212's examples: 0x00010000, 0x00000080, -32.0 and 32.0; R209: "FX_XINC = 0xFFFFFF80". -/
theorem test_increments :
    after (exec (.wrFxXIncrL 0x00) { State.reset with comp := State.reset.comp.set 13 0x02 }) (·.fx.xInc) =
      some 0x00010000 ∧
    after (exec (.wrFxXIncrH 0x7F) { State.reset with comp := State.reset.comp.set 12 0xFF }) (·.fx.xInc) =
      some 0xFFFFFF80 ∧
    after (exec (.wrFxYIncrL 0x01) State.reset) (·.fx.yInc) = some 0x00000080 ∧
    after (exec (.wrFxYIncrH 0x40) State.reset) (·.fx.yInc) = some 0xFFE00000 ∧
    after (exec (.wrFxYIncrH 0x82) State.reset) (·.fx.yInc) = some 0x00200000 := by decide +kernel

/-- R214, R215, R218's examples, and R216, R217, R219 as they are for Y. -/
theorem test_positions :
    after (exec (.wrFxXPosL 0x28) State.reset) (·.fx.xPos) = some 0x00280000 ∧
    after (exec (.wrFxXPosH 0x01) { State.reset with fx := { Fx.reset with xPos := 0x00280000 } }) (·.fx.xPos) =
      some 0x01280000 ∧
    after (exec (.wrFxXPosS 0x80) { State.reset with fx := { Fx.reset with xPos := 0x00280000 } }) (·.fx.xPos) =
      some 0x00288000 ∧
    after (exec (.wrFxYPosL 0x28) State.reset) (·.fx.yPos) = some 0x00280000 ∧
    after (exec (.wrFxYPosH 0x81) { State.reset with fx := { Fx.reset with yPos := 0xFF2800FF } }) (·.fx.yPos) =
      some 0x01280080 ∧
    after (exec (.wrFxYPosS 0x80) { State.reset with fx := { Fx.reset with yPos := 0x00280000 } }) (·.fx.yPos) =
      some 0x00288000 := by decide +kernel

/-- R222: "FX_XPOS = 0x00050000, FX_YPOS = 0x000C0000 ... returns 0x2E"; R223: "S = 300: returns 0x4A". -/
theorem test_span_reads :
    after (exec .rdFxPolyFillL
      { State.reset with fx := { Fx.reset with xPos := 0x00050000, yPos := 0x000C0000 } }) (·.result) =
      some (.byte 0x2E) ∧
    after (exec .rdFxPolyFillH { State.reset with fx := { Fx.reset with yPos := 0x012C0000 } }) (·.result) =
      some (.byte 0x4A) := by decide +kernel

/-- R232: "FX_HOPALIGN = 0, ADDR[1] = 0x100, step 4: accesses go to 0x100, 0x101, 0x104". -/
theorem test_hop :
    after (exec .rdData1 { fxState 0x08 with mem := [(0x101, 0)], port1 := portAt 0x100 6 0 }) (·.port1.addr) =
      some 0x101 ∧
    after (exec .rdData1 { fxState 0x08 with mem := [(0x104, 0)], port1 := portAt 0x101 6 0 }) (·.port1.addr) =
      some 0x104 := by decide +kernel

/-- R233: backward, the cursor goes from the high nibble to the previous byte's low nibble. -/
theorem test_nibble_backward :
    after (exec .rdData0 { fxState 0x04 with mem := [(0xFF, 0)], port0 := ⟨0x100, 1, false, true, 0⟩ })
      (fun t => (t.port0.addr, t.port0.nib)) = some (0xFF, true) := by decide +kernel

/-- R235: "FX_XINC = 0x8000, STEP[INC[0]] = 320": the second access carries. -/
theorem test_line_draw :
    after (exec .rdData0
      { fxState 0x01 with port0 := portAt 0x100 28 0, fx := { Fx.reset with xPos := 0x8000, xInc := 0x8000 } })
      (fun t => (t.fx.xPos, t.port1.addr)) = some (0x10000, 320) := by decide +kernel

/-- R235 with LINE_STEP_PORT = 1 by hand: a port-1 read that carries moves port 1 by its own step and by port 0's,
and its cache holds the byte there; a port-0 read then carries nothing. -/
theorem test_line_draw_stepped_by_port1 :
    after (exec .rdData1
      { fxState 0x01 with
        cfg := { lineStepPort := .port1 }, mem := [(0x241, 0x5A)], port0 := portAt 0x100 28 0
        port1 := portAt 0x100 2 0, fx := { Fx.reset with xPos := 0x8000, xInc := 0x8000 } })
      (fun t => (t.fx.xPos, t.port1.addr, t.port1.rdData)) = some (0x10000, 0x241, 0x5A) ∧
    after (exec .rdData0
      { fxState 0x01 with
        cfg := { lineStepPort := .port1 }, port0 := portAt 0x100 28 0
        fx := { Fx.reset with xPos := 0x8000, xInc := 0x8000 } })
      (fun t => (t.fx.xPos, t.port1.addr)) = some (0x8000, 0) := by decide +kernel

/-- R236: "ADDR[0] = 0x1140, FX_XPOS = 9.5, ADDR[1] = 0x1149". -/
theorem test_polygon :
    after (exec .rdData0
      { fxState 0x02 with port0 := portAt 0x1000 28 0
                          fx := { Fx.reset with xPos := 0x000A0000, xInc := 0xFFFF8000 } })
      (fun t => (t.port0.addr, t.fx.xPos, t.port1.addr)) = some (0x1140, 0x00098000, 0x1149) := by decide +kernel

/-- R239: "FX_XPOS = 19.0, FX_YPOS = 9.0 ... if t = 5 then ADDR[1] = 0x814B". -/
theorem test_affine :
    after (exec .rdData1
      { State.reset with
        mem := [(0x200A, 5), (0x814B, 0xEE)]
        comp := (((State.reset.comp.set 8 0x03).set 9 0x40).set 10 0x11)
        fx := { Fx.reset with xPos := 0x00130000, yPos := 0x00090000 } })
      (fun t => (t.port1.addr, t.port1.rdData)) = some (0x814B, 0xEE) := by decide +kernel

/-- R242 in 4-bit mode: only the selected nibble is replaced, from the same half of the byte. -/
theorem test_nibble_store :
    after (exec (.wrData0 0xAB) { fxState 0x04 with mem := [(0x100, 0x12)], port0 := ⟨0x100, 2, true, false, 0⟩ })
      (·.readByte 0x100) = some 0x1B := by decide +kernel

/-- R242 with TRANSP: a zero byte is not stored and emits no event. -/
theorem test_transparent_store :
    after (exec (.wrData0 0) { fxState 0x80 with mem := [(0x1F9C0, 0x12)], port0 := portAt 0x1F9C0 0 0 })
      (fun t => (t.readByte 0x1F9C0, t.events)) = some (0x12, []) := by decide +kernel

/-- R249, R250: byte masks 0, 1, 2, 3 from the cache at an address that is not a multiple of 4. -/
theorem test_cache_write :
    after (exec (.wrData0 0xE4)
      { fxState 0x40 with
        mem := [(0x100, 0x11), (0x101, 0x22), (0x102, 0x33), (0x103, 0x44)]
        port0 := portAt 0x102 0 0
        fx := { Fx.reset with cache := #v[0xAB, 0xCD, 0xEF, 0x99] } })
      (fun t => (t.readByte 0x100, t.readByte 0x101, t.readByte 0x102, t.readByte 0x103)) =
      some (0xAB, 0xC2, 0x3F, 0x44) := by decide +kernel

/-- R249: the multiplier's result is stored least significant byte first and the accumulator stays. -/
theorem test_multiplier_write :
    after (exec (.wrData1 0)
      { fxState 0x40 with
        comp := (State.reset.comp.set 8 0x40).set 11 0x10
        port1 := portAt 0x100 0 0
        fx := { Fx.reset with cache := #v[0x34, 0x12, 0x02, 0x00], acc := 10 } })
      (fun t => (t.readByte 0x100, t.readByte 0x101, t.readByte 0x102, t.readByte 0x103, t.fx.acc)) =
      some (0x72, 0x24, 0, 0, 10) := by decide +kernel

/-- R246: an 8-bit fill stores the byte returned and advances the index; with CACHE_INC2 within its pair. -/
theorem test_cache_fill :
    after (exec .rdData0 { fxState 0x20 with port0 := portAt 0x100 0 0x5A, mem := [(0x100, 0)] })
      (fun t => (t.fx.cache[0], t.fx.cByte)) = some (0x5A, 1) ∧
    after (exec .rdData0
      { fxState 0x20 with
        comp := (State.reset.comp.set 8 0x20).set 11 1
        port0 := portAt 0x100 0 0x5A
        mem := [(0x100, 0)]
        fx := { Fx.reset with cByte := 3 } })
      (fun t => (t.fx.cache[3], t.fx.cByte)) = some (0x5A, 2) := by decide +kernel

/-- R202, R204, R205: fields of the examples: line draw; tile base 0x08000 with clipping; map base 0x02000,
128 tiles a side. -/
theorem test_fx_control_fields :
    after (exec (.wrFxCtrl 0x01) State.reset) (·.a1Mode) = some 1 ∧
    after (exec (.wrFxTilebase 0x42) State.reset) (fun t => (affineBase t.comp[9], t.affClip)) =
      some (0x8000, true) ∧
    after (exec (.wrFxMapbase 0x13) State.reset) (fun t => (affineBase t.comp[10], affineMapSize t.comp[10])) =
      some (0x2000, 128) := by decide +kernel

/-- R226, R229: the cache bytes and their shadows. -/
theorem test_cache_registers :
    after (exec (.wrFxCacheL 0x34) State.reset) (fun t => (t.fx.cache[0], t.comp[24])) = some (0x34, 0x34) ∧
    after (exec (.wrFxCacheU 0x56) State.reset) (fun t => (t.fx.cache[3], t.comp[27])) = some (0x56, 0x56) := by
  decide +kernel

/-- R283, R285, R287: the examples 64 x 32 text, map base 0x1B000, tile base 0x1F000. -/
theorem test_layer_registers :
    after (exec (.wrL0Config 0x10) State.reset)
      (fun t => (t.layer0.mapWLog2, t.layer0.mapHLog2, layerMode t.layer0)) = some (6, 5, .text) ∧
    after (exec (.wrL0Mapbase 0xD8) State.reset) (·.layer0.mapAddr) = some 0x1B000 ∧
    after (exec (.wrL0Tilebase 0xF8) State.reset) (fun t => (t.layer0.tileAddr, t.layer0.tileWLog2)) =
      some (0x1F000, 3) ∧
    after (exec (.wrL1VscrollH 0xFF) State.reset) (fun t => (t.layer1.vscrollH, t.layer1.vscroll)) =
      some (0xFF, 0xF00) := by decide +kernel

/-- R381: "WR 0x1C, #0x80 emits AudioRegWrite(1, 0x80)"; R383 likewise; R382, R384 return the inputs. -/
theorem test_forwarded_registers :
    after (exec (.wrAudioRate 0x80) State.reset) (·.events) = some [.audioRegWrite 1 0x80] ∧
    after (exec (.wrSpiCtrl 0x80) State.reset) (·.events) = some [.spiWrite 1 0x80] ∧
    after (exec .rdAudioData { State.reset with inputs := { Inputs.idle with audioReg := #v[1, 2, 3] } })
      (·.result) = some (.byte 3) ∧
    after (exec .rdSpiData { State.reset with inputs := { Inputs.idle with spi := #v[7, 8] } })
      (·.result) = some (.byte 7) := by decide +kernel

/-- R388: a debug read of DATA0 moves nothing; of slot 24 it does not reset the accumulator. -/
theorem test_debug_reads :
    after (exec .drdData0 { State.reset with port0 := portAt 0x100 2 0x11 })
      (fun t => (t.result, t.port0.addr)) = some (.byte 0x11, 0x100) ∧
    after (exec .drdComp9 { State.reset with dcsel := 6, fx := { Fx.reset with acc := 10 } })
      (fun t => (t.result, t.fx.acc)) = some (.byte 0x56, 10) := by decide +kernel

/-- R360, R406: the VGA wrap tick sets VSYNC, SPRCOL and, with IRQLINE 0, LINE. -/
theorem test_hostStep_wrap_tick :
    after (exec (.hostStep 1) { State.reset with scan := ⟨799, 524, 0, 0, false⟩, collAcc := 1 })
      (fun t => (t.result, t.scan, t.isr, t.collAcc)) =
      some (.flag true, ⟨0, 0, 1, 0, false⟩, ⟨true, true, true, 1⟩, 0) := by decide +kernel

/-- R355: the end of the low field sets FIELD; with VGA active it reports no frame. -/
theorem test_hostStep_field :
    after (exec (.hostStep 1) { State.reset with scan := ⟨0, 0, 793, 524, false⟩ })
      (fun t => (t.result, t.scan)) = some (.flag false, ⟨1, 0, 0, 525, true⟩) := by decide +kernel

/-- R430: a reset empties the interrupt state and keeps no `RDDATA`. -/
theorem test_hostReset :
    after (exec .hostReset { State.reset with ien := 3, port0 := portAt 5 6 7 })
      (fun t => (t.ien, t.port0, t.epoch)) = some (0, Port.reset, 1) := by decide +kernel

/-- R392: the dump's last part starts at offset 131854; its parts have the lengths of the table. -/
theorem test_dump_parts :
    (compBytes State.reset).length = 256 ∧ (layerBytes LayerRegs.reset).length = 7 ∧
      131072 + 256 + 512 + 14 = 131854 ∧ 131854 + 1024 = 132878 := by decide +kernel

/-- R311: "a 16-wide sprite with X10 = 1010 is at x = -14, and with X10 = 1007 is at x = 1007". -/
theorem test_sprite_position : signedPosition 1010 16 = -14 ∧ signedPosition 1007 16 = 1007 := by decide +kernel

/-- R319: a fully visible sprite of width 8 costs 1 + 2 * 8 = 17 units. -/
theorem test_sprite_cost :
    (spriteLoop (fun _ => 0x11) ⟨0, 128, 0, 16⟩
      [⟨0, false, 8, 8, 0, 0, false, false, 1, 1, 0⟩]
      ⟨801, 0, List.replicate 16 {}, false⟩).budget = 801 - 17 := by decide +kernel

/-- R318: two sprites of mask 1 that overlap collide; one alone does not. -/
theorem test_sprite_collision :
    (spriteLoop (fun _ => 0x11) ⟨0, 128, 0, 16⟩
      [⟨0, false, 8, 8, 0, 0, false, false, 1, 1, 0⟩, ⟨0, false, 8, 8, 7, 0, false, false, 1, 1, 0⟩]
      ⟨801, 0, List.replicate 16 {}, false⟩).coll = 1 ∧
    (spriteLoop (fun _ => 0x11) ⟨0, 128, 0, 16⟩ [⟨0, false, 8, 8, 0, 0, false, false, 1, 1, 0⟩]
      ⟨801, 0, List.replicate 16 {}, false⟩).coll = 0 := by decide +kernel

/-- R341: "P = 0x0A5C gives (0xAA, 0x55, 0xCC)"; R343 by hand: the weighted mean of 0xA5C is 8. -/
theorem test_palette_expansion :
    expandRgb 0xA5C = ⟨0xAA, 0x55, 0xCC⟩ ∧ greyOf .weighted 0xA5C = 0x888 := by decide +kernel

/-- R279, R280: packed pixels most significant first; the palette offset moves colours 1 to 15 only. -/
theorem test_pixels :
    extractPixel 4 0xA7 0 = 0xA ∧ extractPixel 4 0xA7 1 = 7 ∧ extractPixel 1 0x40 1 = 1 ∧
      palOffset 3 2 = 0x23 ∧ palOffset 16 2 = 16 ∧ palOffset 0 2 = 0 := by decide +kernel

/-- R13, R116: a step performs the word presented, and refuses one that spells nothing. -/
theorem test_step :
    after (step (presented 0x4601)) (fun t => (t.ien, t.queue)) = some (1, []) ∧
    after (step (presented 0x0001)) (·.ien) = none ∧ after (step (presented 0xC600)) (·.ien) = none ∧
    after (step (presented 0x2000)) (·.ien) = none := by decide +kernel

/-! ## Witnesses: states and operands that meet the statements' hypotheses, at the ends of their ranges -/

/-- An operation ran. -/
def runs (a : Answer) : Bool :=
  match a with
  | .next _ => true
  | .fault _ => false
  | .refused _ => false

theorem witness_DecodeOfEncode :
    (Instr.wrUndef3 7 0xFF).wellFormed = true ∧ (Instr.wrUndef3 7 0xFF).spelledUnder 7 = true ∧
    (Instr.rdUndef0 63).wellFormed = true ∧ (Instr.rdUndef0 63).spelledUnder 63 = true ∧
    (Instr.rdFxCacheU).wellFormed = true ∧ (Instr.rdFxCacheU).spelledUnder 6 = true ∧
    (Instr.hostStep 420000).wellFormed = true ∧ (Instr.hostStep 420000).spelledUnder 9 = true := by decide +kernel

theorem witness_EncodeOfDecode :
    decode 7 ⟨0x0900, 0⟩ = .ok (.rdUndef0 7) ∧ decode 6 ⟨0x49FF, 0⟩ = .ok (.wrFxCacheL 0xFF) ∧
    decode 0 ⟨0xC100, 5⟩ = .ok (.hostStep 5) := ⟨rfl, rfl, rfl⟩

/-- A queue whose first word is each side of every boundary of R116: 0x2000, 0x0001 and 0xC600 invalid;
0x1F00, 0x40FF and 0xC500 valid. -/
theorem witness_InvalidWords :
    (presented 0x2000).queue = [⟨⟨0x2000, 0⟩, Inputs.idle⟩] ∧
    runs (step (presented 0x2000)) = false ∧ runs (step (presented 0x0001)) = false ∧
    runs (step (presented 0x8001)) = false ∧ runs (step (presented 0xC001)) = false ∧
    runs (step (presented 0xC600)) = false ∧ runs (step (presented 0xDF00)) = false ∧
    runs (step (presented 0x1F00)) = true ∧ runs (step (presented 0x40FF)) = true ∧
    runs (step (presented 0xC500)) = true := by decide +kernel

theorem witness_StepPerforms :
    (presented 0x4601).queue = ⟨⟨0x4601, 0⟩, Inputs.idle⟩ :: [] ∧
    decode (presented 0x4601).dcsel ⟨0x4601, 0⟩ = .ok (.wrIen 1) ∧ (Instr.wrIen 1).wellFormed = true ∧
    State.reset.queue = [] := ⟨rfl, rfl, rfl, rfl⟩

/-- The invariant holds right after reset. -/
theorem witness_reset_inv : State.reset.Inv :=
  ⟨rfl, rfl, fun _ h => (List.not_mem_nil h).elim, by decide, by decide, by decide, by decide, rfl⟩

/-- The invariant holds in a state at the upper ends of the counters' ranges, with a step to take. -/
theorem witness_StepKeepsTheInvariant :
    State.Inv { presented 0xC100 with scan := ⟨799, 524, 793, 1049, true⟩ } ∧
    runs (step { presented 0xC100 with scan := ⟨799, 524, 793, 1049, true⟩ }) = true :=
  ⟨⟨rfl, rfl, fun _ h => (List.not_mem_nil h).elim, by decide, by decide, by decide, by decide, rfl⟩,
    by decide +kernel⟩

theorem witness_SurroundingsAreKept : runs (exec (.wrAudioData 1) State.reset) = true := by decide +kernel

theorem witness_OnlyStepAndReset :
    runs (exec (.wrCtrl 127) State.reset) = true ∧ ¬ (Instr.wrCtrl 127).steps ∧ ¬ (Instr.wrCtrl 127).resets :=
  ⟨rfl, id, by unfold Instr.resets; decide⟩

/-- The accumulator changes on a read of slot 25, on FX_MULT 0x40 and 0x80, and on a reset. -/
theorem witness_AccumulatorChanges :
    after (exec .rdFxAccum { State.reset with fx := { Fx.reset with cache := #v[1, 0, 1, 0] } })
      (fun t => t.fx.acc != 0) = some true ∧
    after (exec (.wrFxMult 0x40) { State.reset with fx := { Fx.reset with cache := #v[1, 0, 1, 0] } })
      (fun t => t.fx.acc != 0) = some true ∧
    after (exec (.wrFxMult 0x80) { State.reset with fx := { Fx.reset with acc := 1 } })
      (fun t => t.fx.acc != 1) = some true ∧
    after (exec (.wrCtrl 0x80) { State.reset with fx := { Fx.reset with acc := 1 } })
      (fun t => t.fx.acc != 1) = some true ∧
    after (exec .rdFxAccumReset { State.reset with fx := { Fx.reset with acc := 1 } })
      (fun t => t.fx.acc != 1) = some true := by decide +kernel

/-- A host operation clears a set status bit; a STEP sets a clear one and keeps a set one. -/
theorem witness_StatusBits :
    after (exec (.wrIsr 1) { State.reset with isr := ⟨true, true, true, 0⟩ }) (·.isr) =
      some ⟨false, true, true, 0⟩ ∧ ¬ (Instr.wrIsr 1).steps ∧
    after (exec (.hostStep 1)
      { State.reset with isr := ⟨false, true, true, 0⟩, scan := ⟨799, 524, 0, 0, false⟩ }) (·.isr) =
      some ⟨true, true, true, 0⟩ ∧ (Instr.hostStep 1).steps :=
  ⟨by decide +kernel, id, by decide +kernel, trivial⟩

theorem witness_OnlyDataWrites :
    after (exec (.wrData0 0x55) (withBytes [(0, 0x11)])) (fun t => t.readByte 0 != 0x11) = some true ∧
    after (exec (.wrData1 0x55) (withBytes [(0, 0x11)])) (fun t => t.readByte 0 != 0x11) = some true ∧
    after (exec .hostReset (withBytes [(0x1FC00, 0x11)])) (fun t => t.readByte 0x1FC00 != 0x11) = some true := by
  decide +kernel

theorem witness_AddressReads : State.reset.port State.reset.addrSel = Port.reset := rfl

/-- Each of the three sums of R141, R143 and R145 is an address: at the highest old address and byte. -/
theorem witness_AddressWrites :
    ({ State.reset with addrSel := .port1, port1 := portAt 0x1FFFF 0 0 } : State).port .port1 =
      portAt 0x1FFFF 0 0 ∧
    (0x1FFFF#17).toNat = 0x1FFFF / 256 * 256 + (0xFF#8).toNat ∧
    (0x1FFFF#17).toNat = 0x1FFFF / 65536 * 65536 + (0xFF#8).toNat * 256 + 0x1FFFF % 256 ∧
    (0x1FFFF#17).toNat = (0xFF#8).toNat % 2 * 65536 + 0x1FFFF % 65536 := by decide +kernel

theorem witness_PlainData :
    State.reset.comp[8] = 0 ∧
    (0x0027F#17) = (0x1FFFF#17) + BitVec.ofInt 17 (stepOf 30) ∧
    (0x1FFFF#17) = (0#17) + BitVec.ofInt 17 (stepOf 3) := by decide +kernel

/-- Each mode, with the cache cycling, filling, and neither. -/
theorem witness_DataReadsInEveryMode :
    (fxState 0).a1Mode = 0 ∧ (fxState 1).a1Mode = 1 ∧ (fxState 0x12).a1Mode = 2 ∧ (fxState 3).a1Mode = 3 ∧
    (fxState 0x12).cacheCyc = true ∧ (fxState 0x12).cacheFill = false ∧ (fxState 0x22).cacheFill = true := by
  decide +kernel

/-- R236, R240: CACHE_CYC moves the byte index on a port-0 read of mode 2 and on no other read. -/
theorem test_read_cycles_in_polygon_mode_alone :
    after (exec .rdData0 { fxState 0x12 with mem := [(0, 0)] }) (·.fx.cByte) = some 1 ∧
    after (exec .rdData0 { fxState 0x11 with mem := [(0, 0)] }) (·.fx.cByte) = some 0 ∧
    after (exec .rdData1 { fxState 0x12 with mem := [(0, 0)] }) (·.fx.cByte) = some 0 := by decide +kernel

/-- Both sides of the store's extent occur: within one aligned group and outside it. -/
theorem witness_DataWritesInEveryMode :
    (fxState 0x40).cacheWr = true ∧ (fxState 0).cacheWr = false ∧
    (0x104#17).toNat / 4 ≠ (0x103#17).toNat / 4 ∧ (0x100#17).toNat / 4 = (0x103#17).toNat / 4 ∧
    (fxState 0).a1Mode = 0 ∧ (fxState 3).a1Mode = 3 ∧ (fxState 2).a1Mode ≠ 1 ∧
    (fxState 0).cacheFill = false := by decide +kernel

/-- The highest address outside the three windows. -/
theorem witness_DataPortRoundTrip :
    ({ State.reset with port0 := portAt 0x1F9BF 0 0 } : State).comp[8] = 0 ∧
    ({ State.reset with port0 := portAt 0x1F9BF 0 0 } : State).port0.addr.toNat < 0x1F9C0 ∧
    ({ State.reset with port0 := portAt 0x1F9BF 0 0 } : State).port0.inc = 0 := by decide +kernel

theorem witness_StaleLatch :
    State.reset.comp[8] = 0 ∧ State.reset.port0.inc = 0 ∧ State.reset.port1.inc = 0 ∧
    State.reset.port0.addr = State.reset.port1.addr := by decide +kernel

/-- Steps +4, +320 and another, agreeing and not agreeing with the alignment; port 0 in affine mode; nibble
stepping idle for each of its three reasons. -/
theorem witness_HopSteps :
    (fxState 0x08).hop16 = true ∧ (fxState 0x08).a1Mode = 0 ∧ (fxState 0x08).mode4 = false ∧
    stepOf 6 = 4 ∧ stepOf 28 = 320 ∧ stepOf 7 = -4 ∧ (0x103#17).toNat % 4 = (3#2).toNat ∧
    (0x100#17).toNat % 4 ≠ (3#2).toNat ∧ (fxState 0x0B).hop16 = true ∧ (fxState 0x0B).a1Mode = 3 ∧
    nibbleIdle (fxState 0x0B) .port0 ∧ nibbleIdle (fxState 0x0C) .port1 ∧
    nibbleIdle { fxState 0x0C with port1 := ⟨0, 2, true, true, 0⟩ } .port1 := by
  unfold nibbleIdle; decide +kernel

/-- Nibble stepping acts forward and backward, and does not act for each of the three reasons, on port 0 in
mode 3 and on port 1 in mode 0. -/
theorem witness_NibbleSteps :
    (fxState 0x04).a1Mode = 0 ∧ (fxState 0x04).mode4 = true ∧ (⟨0, 0, false, true, 0⟩ : Port).nibInc = true ∧
    (⟨0, 1, false, true, 0⟩ : Port).inc = 1 ∧ (fxState 0x07).mode4 = true ∧ (fxState 0x07).a1Mode = 3 ∧
    nibbleIdle (fxState 0) .port1 ∧ nibbleIdle (fxState 0x07) .port0 ∧
    nibbleIdle { fxState 0x07 with port0 := ⟨0, 2, true, true, 0⟩ } .port0 ∧
    ¬ nibbleIdle { fxState 0x07 with port0 := ⟨0, 1, true, true, 0⟩ } .port0 := by
  unfold nibbleIdle; decide +kernel

/-- No carry, one carry and a negative carry; a position without fraction; each stepping port. -/
theorem witness_LineDraw :
    (fxState 0x01).a1Mode = 1 ∧ (fxState 0x01).direct = fxState 0 ∧ PortId.port0 = (fxState 0x01).cfg.lineStepPort ∧
    PortId.port1 ≠ (fxState 0x01).cfg.lineStepPort ∧
    PortId.port1 = ({ fxState 0x01 with cfg := { lineStepPort := .port1 } } : State).cfg.lineStepPort ∧
    ((0x8000 : Int) + 0x8000) / 65536 - 0x8000 / 65536 = 1 ∧ ((0 : Int) + 0x8000) / 65536 - 0 / 65536 = 0 ∧
    ((0 : Int) + -1) / 65536 - 0 / 65536 = -1 ∧ (0xFFFF0000#32).toNat % 65536 = 0 := by decide +kernel

theorem witness_PolygonSpanReads :
    (fxState 0x02).a1Mode = 2 ∧ (fxState 0x02).direct = fxState 0 ∧ (fxState 0x12).cacheCyc = true ∧ (fxState 0x12).cacheFill = false ∧
    (fxState 0x02).mode4 = false ∧ (fxState 0x02).hop16 = false := by decide +kernel

/-- Span lengths 0, 7, 8, 15, 16 and 1023; and the growth law from 1022 and at the right edge's bound. -/
theorem witness_SpanLength :
    spanValue State.reset = 0 ∧
    spanValue { State.reset with fx := { Fx.reset with yPos := 0x00080000 } } = 8 ∧
    spanValue { State.reset with fx := { Fx.reset with yPos := 0x000F0000 } } = 15 ∧
    spanValue { State.reset with fx := { Fx.reset with yPos := 0x00100000 } } = 16 ∧
    spanValue { State.reset with fx := { Fx.reset with yPos := 0x7FFE0000 } } = 1023 ∧
    spanValue { State.reset with fx := { Fx.reset with xPos := 1, yPos := 0x80000000 } } = 0 ∧
    (fxState 0x02).a1Mode = 2 ∧ ((0 : BitVec 32).toInt / 65536 ≤ (0x03FE0000#32).toInt / 65536) ∧
    (0x03FE0000#32).toInt / 65536 = 1022 ∧ (0x7FFEFFFF#32).toInt + 65536 < 2147483648 := by decide +kernel

/-- Tiles inside the map and clipped at its edge, in 8-bit and 4-bit mode. -/
theorem witness_AffineReads :
    (fxState 0x03).a1Mode = 3 ∧ (fxState 0x07).direct = fxState 4 ∧ (fxState 0x03).mode4 = false ∧ (fxState 0x07).mode4 = true ∧
    affineSide (fxState 0x03) = 2 ∧ affineTile { fxState 0x03 with mem := [(0, 9)] } 0 0 = 9 ∧
    affineTile { fxState 0x03 with comp := (State.reset.comp.set 8 3).set 9 2, mem := [(0, 9)] } 0x00100000 0 =
      0 ∧
    affineTile { fxState 0x03 with mem := [(0, 9)] } 0x00100000 0 = 9 := by decide +kernel

/-- Stores that happen and stores skipped, byte by byte and nibble by nibble. -/
theorem witness_SingleByteStores :
    (fxState 0x80).cacheWr = false ∧ storeSkipped (fxState 0x80) false 0 ∧ ¬ storeSkipped (fxState 0x80) false 1 ∧
    storeSkipped (fxState 0x84) true 0xF0 ∧ ¬ storeSkipped (fxState 0x84) false 0xF0 ∧
    ¬ storeSkipped (fxState 0x00) false 0 := by unfold storeSkipped; decide +kernel

/-- Each nibble protected by its mask bit, by TRANSP, and not protected. -/
theorem witness_CacheWrites :
    (fxState 0x40).cacheWr = true ∧ highProtected (fxState 0x40) 0xFF 2 ∧ ¬ highProtected (fxState 0x40) 0 1 ∧
    lowProtected (fxState 0x40) 0xFF 1 ∧ ¬ lowProtected (fxState 0x40) 0 2 ∧
    highProtected (fxState 0xC4) 0x0F 0 ∧ lowProtected (fxState 0xC4) 0xF0 0 ∧ lowProtected (fxState 0xC0) 0 0 ∧
    (0x103#17).toNat = (0x101#17).toNat / 4 * 4 + (3 : Fin 4).val := by
  unfold highProtected lowProtected; decide +kernel

theorem witness_CacheFills :
    (fxState 0x20).cacheFill = true ∧ (fxState 0x20).mode4 = false ∧ (fxState 0x20).cacheInc2 = false ∧
    (fxState 0x20).fx.cByte = 0 ∧ (fxState 0x24).mode4 = true ∧ (fxState 0x24).fx.cNib = false ∧
    ({ fxState 0x24 with fx := { Fx.reset with cNib := true, cByte := 3 } } : State).fx.cNib = true := by
  decide +kernel

theorem witness_AccumulatorOperations :
    ({ State.reset with fx := { Fx.reset with cache := #v[0x00, 0x80, 0x00, 0x80] } } : State).fx.cache =
      #v[0x00, 0x80, 0x00, 0x80] ∧
    operandA { State.reset with fx := { Fx.reset with cache := #v[0x00, 0x80, 0xFF, 0x7F] } } = -32768 ∧
    operandB { State.reset with fx := { Fx.reset with cache := #v[0x00, 0x80, 0xFF, 0x7F] } } = 32767 ∧
    ({ State.reset with dcsel := 6 } : State).dcsel = 6 := by
  decide +kernel

theorem witness_ControlRegister : (0x7F#8).toNat < 128 ∧ 128 ≤ (0x80#8).toNat := by decide

/-- The first and last byte of each window, and a default palette's first and last entry. -/
theorem witness_ResetValues :
    0x1F9C0 ≤ (0x1F9C0#17).toNat ∧ (0x1F9FF#17).toNat < 0x1FA00 ∧ 0x1FC00 ≤ (0x1FC00#17).toNat ∧
    0x1FC00 ≤ (0x1FFFF#17).toNat ∧
    ({ State.reset with cfg := { defaultPalette := some (List.replicate 256 0xABC) } } : State).cfg.defaultPalette =
      some (List.replicate 256 0xABC) ∧
    (List.replicate 256 (0xABC : BitVec 12))[0]? = some 0xABC ∧
    (List.replicate 256 (0xABC : BitVec 12))[255]? = some 0xABC := by decide +kernel

/-- The first and the last undefined bank, with each of the eight operations and a write-only FX slot. -/
theorem witness_UndefinedAndWriteOnlySlots :
    7 ≤ (7 : BitVec 6).toNat ∧ 7 ≤ (63 : BitVec 6).toNat ∧ (63 : BitVec 6).toNat * 4 + 3 < 256 ∧
    runs (exec (.wrUndef0 7 1) State.reset) = true ∧ runs (exec (.wrUndef3 63 1) State.reset) = true ∧
    runs (exec (.rdUndef0 7) State.reset) = true ∧ runs (exec .rdFxYPosS State.reset) = true := by decide +kernel

/-- R212's lowest and highest values with and without the multiplier are increments. -/
theorem witness_IncrementRegisters :
    (0xFFE00000#32).toInt = incrementValue 0x40 0x00 ∧ (0x001FFF80#32).toInt = incrementValue 0x3F 0xFF ∧
    (0xFC000000#32).toInt = incrementValue 0xC0 0x00 ∧ (0x03FFF000#32).toInt = incrementValue 0xBF 0xFF ∧
    incrementValue State.reset.comp[13] 1 = 128 ∧ (128#32).toInt = 128 := by decide +kernel

/-- From the highest old position with the highest byte, and from 0 with 0. -/
theorem witness_PositionRegisters :
    (0x07FFFF80#32).toNat =
      0xFFFFFFFF / 2 ^ 24 % 8 * 2 ^ 24 + (0xFF#8).toNat * 2 ^ 16 + 0xFFFFFFFF / 2 ^ 7 % 512 * 2 ^ 7 ∧
    (0x07FFFF80#32).toNat =
      (0xFF#8).toNat % 8 * 2 ^ 24 + 0xFFFFFFFF / 2 ^ 8 % 65536 * 2 ^ 8 + (0xFF#8).toNat / 128 * 2 ^ 7 ∧
    (0x07FFFF80#32).toNat =
      0xFFFFFFFF / 2 ^ 16 % 2048 * 2 ^ 16 + (0xFF#8).toNat * 2 ^ 8 + 0xFFFFFFFF / 2 ^ 7 % 2 * 2 ^ 7 ∧
    ({ State.reset with fx := { Fx.reset with xPos := 0xFFFFFFFF } } : State).fx.xPos.toNat = 0xFFFFFFFF ∧
    State.reset.fx.yPos.toNat = 0 := by decide +kernel

theorem witness_Layers :
    ({ State.reset.layer0 with config := 0xFF } : LayerRegs) = { LayerRegs.reset with config := 0xFF } := rfl

/-- A debug read of each list; the first and last composer index. -/
theorem witness_DebugReads :
    (.drdAddrL, .rdAddrL) ∈ debugPairs ∧ (.drdSpiCtrl, .rdSpiCtrl) ∈ debugPairs ∧ debugPairs.length = 26 ∧
    (.drdComp9, 9) ∈ debugComposerReads ∧ (.drdComp12, 12) ∈ debugComposerReads := by decide +kernel

/-- A framebuffer with its last line rendered. -/
theorem witness_FramebufferAndDumpCalls :
    FrameLines.get [(479, List.replicate 2560 (0 : Byte))] 479 = some (List.replicate 2560 0) ∧
    (List.replicate 2560 (0 : Byte)).length = 2560 ∧ 479 < 480 ∧ 2559 < 2560 :=
  ⟨rfl, List.length_replicate, by decide, by decide⟩

theorem witness_OneFrameLaw :
    ({ State.reset with scan := ⟨799, 524, 0, 0, false⟩, irqLine := 479 } : State).ntscActive = false ∧
    799 < 800 ∧ 524 < 525 ∧ (479 : BitVec 9).toNat ≤ 479 ∧ ¬ (480 : BitVec 9).toNat ≤ 479 := by decide +kernel

/-- The wrap, the last visible line's end before it, and the last tick that ends no line. -/
theorem witness_VgaLineEnds :
    State.reset.ntscActive = false ∧
    ({ State.reset with scan := ⟨799, 524, 0, 0, false⟩ } : State).scan.vgaY = 524 ∧
    ({ State.reset with scan := ⟨799, 523, 0, 0, false⟩ } : State).scan.vgaY < 524 ∧
    ({ State.reset with scan := ⟨799, 478, 0, 0, false⟩, irqLine := 479 } : State).irqLine.toNat = 478 + 1 ∧
    ({ State.reset with scan := ⟨798, 524, 0, 0, false⟩ } : State).scan.vgaX ≠ 799 := by
  decide +kernel

/-- The ends of both fields, half-lines at the ends of both visible ranges, and a tick that ends none. -/
theorem witness_NtscHalfLineEnds :
    ({ State.reset with comp := State.reset.comp.set 0 2 } : State).ntscActive = true ∧
    793 + 1 = State.reset.cfg.ntscHalfW ∧ State.reset.cfg.ntscYOffLow = 42 ∧ State.reset.cfg.ntscYOffHigh = 568 ∧
    42 + (479 : BitVec 9).toNat / 2 * 2 < 522 ∧ 568 + ((479 : BitVec 9).toNat / 2 * 2 + 1) < 1048 ∧
    ({ State.reset with comp := State.reset.comp.set 0 2, scan := ⟨0, 0, 793, 524, false⟩ } : State).scan.ntscY =
      524 ∧ 792 + 1 ≠ State.reset.cfg.ntscHalfW := by decide +kernel

/-- The three cases of a pixel at the ends of the screen: output mode 0; the border (row 479 with VSTOP 478);
the active area (pixel (639, 479) of the reset area). -/
theorem witness_RenderedPixels :
    State.reset.outMode = 0 ∧ State.reset.inputs.skip = false ∧ 479 < 480 ∧ 639 < 640 ∧
    ({ State.reset with comp := (State.reset.comp.set 0 1).set 7 239 } : State).outMode ≠ 0 ∧
    ¬ (479 < (({ State.reset with comp := (State.reset.comp.set 0 1).set 7 239 } : State).comp[7]).toNat * 2) ∧
    ({ State.reset with comp := State.reset.comp.set 0 1 } : State).outMode ≠ 0 ∧
    639 < (({ State.reset with comp := State.reset.comp.set 0 1 } : State).comp[5]).toNat * 4 ∧
    479 < (({ State.reset with comp := State.reset.comp.set 0 1 } : State).comp[7]).toNat * 2 := by decide +kernel

/-- A table of 128 records; sprites on and off; a hidden record and a shown one; lines outside and inside a
sprite of height 8 at y = 0; a budget spent by the examination and one that is not. -/
theorem witness_HiddenSprites :
    (List.replicate 128 (spriteOf fun _ => 0)).length = 128 ∧
    (∀ n < 128, (List.replicate 128 (spriteOf fun _ => 0))[n]? = some (spriteOf fun _ => 0)) ∧
    State.reset.comp[0].toNat / 64 % 2 = 0 ∧ (State.reset.comp.set 0 0x40)[0].toNat / 64 % 2 = 1 ∧
    (spriteOf fun _ => 0x03).z = 0 ∧ (spriteOf fun _ => 0x13).z = 0 ∧ (spriteOf fun _ => 0x04).z = 1 ∧
    (spriteOf fun k => if k = 6 then 4 else 0).z ≠ 0 ∧
    (spriteOf fun k => if k = 6 then 4 else 0).y ≤ ((7 : Nat) : Int) ∧
    ((7 : Nat) : Int) < (spriteOf fun k => if k = 6 then 4 else 0).y +
      (spriteOf fun k => if k = 6 then 4 else 0).h ∧
    (spriteOf fun k => if k = 6 then 4 else 0).y + (spriteOf fun k => if k = 6 then 4 else 0).h ≤
      ((8 : Nat) : Int) ∧
    (1 : Int) ≤ 1 ∧ (1 : Int) < 2 := by
  decide +kernel

/-- Positions that wrap and do not (R311); a column before, in and after a sprite of width 8 at x = 0; both
fetches; each boundary of the budget; an unpacked row of zeros; the first and last pixel of a row; equal and
strictly rising z-depths. -/
theorem witness_SpritePixelRule :
    (spriteOf fun k => if k = 3 ∨ k = 2 then 0xFF else 0).x = -1 ∧ (spriteOf fun _ => 0x01).x = 257 ∧
    (spriteOf fun _ => 0).w = 8 ∧ (spriteOf fun _ => 0).x = 0 ∧
    (∀ i < 8, (List.replicate 8 (0 : Byte))[i]? = some (BitVec.ofNat 8 (if i % 2 = 0 then 0 / 16 else 0 % 16))) ∧
    (128#8).toNat * (8 - 0) / 128 = 8 ∧ (128#8).toNat * (7 - 0) / 128 = 7 ∧
    (some 1 : Option Nat) = some (7 / 4) ∧ (none : Option Nat) ≠ some (0 / 4) ∧
    (4 : Int) ≤ 4 ∧ (4 : Int) < 5 ∧ (5 : Int) - (4 : Nat) ≤ 1 ∧ (1 : Int) < 6 - (4 : Nat) ∧
    (1 : Int) - (0 : Nat) ≤ 1 ∧ (1 : Int) < 2 - (0 : Nat) ∧
    (List.replicate 640 ({} : SpritePixel))[0]? = some ({} : SpritePixel) ∧
    (List.replicate 640 ({} : SpritePixel))[639]? = some ({} : SpritePixel) ∧
    (1 : BitVec 2) ≤ 1 ∧ (1 : BitVec 2) < 2 := by decide +kernel

/-- R313, R314: with 4 units left after its examination a sprite's first fetch ends the line; with 5 the pixel's
unit does; with 6 one pixel is drawn. -/
theorem test_sprite_budget_ends_the_line :
    (walkRow ⟨0, 128, 0, 16⟩ (spriteOf fun _ => 0) [1, 1, 1, 1, 1, 1, 1, 1] [0, 1] none
      ⟨4, 0, List.replicate 16 {}, false⟩).budget = 0 ∧
    (walkRow ⟨0, 128, 0, 16⟩ (spriteOf fun _ => 0) [1, 1, 1, 1, 1, 1, 1, 1] [0, 1] none
      ⟨5, 0, List.replicate 16 {}, false⟩).stopped = true ∧
    ((walkRow ⟨0, 128, 0, 16⟩ (spriteOf fun k => if k = 6 then 4 else 0) [1, 1, 1, 1, 1, 1, 1, 1] [0, 1] none
      ⟨6, 0, List.replicate 16 {}, false⟩).row.map (·.col)).take 2 = [1, 0] := by decide +kernel

/-- A reachable end of both rasters, in the invariant, from which n ticks wrap both. -/
theorem witness_RastersRunFreely :
    State.Inv { State.reset with scan := ⟨799, 524, 793, 1049, true⟩ } ∧
    (524 * 800 + 799 + 1) % 420000 = 0 ∧ (1049 * 794 + 793 + 1) % (794 * 1050) = 0 :=
  ⟨⟨rfl, rfl, fun _ h => (List.not_mem_nil h).elim, by decide, by decide, by decide, by decide, rfl⟩,
    by decide, by decide⟩

/-- A merge in which the sprite, the upper layer and nothing is frontmost; palette entry 255 from its two bytes;
greyed by the default formula and by a table, and not greyed. -/
theorem witness_MergeAndPalette :
    merge 3 7 5 6 = 7 ∧ merge 2 7 5 6 = 6 ∧ merge 1 7 0 0 = 7 ∧ merge 0 7 0 0 = 0 ∧
    10 * 256 + 5 * 16 + 12 =
      (((withBytes [(0x1FBFE, 0x5C), (0x1FBFF, 0xFA)]).readByte (BitVec.ofNat 17 (0x1FA00 + 2 * 255 + 1))).toNat *
          256 +
        ((withBytes [(0x1FBFE, 0x5C), (0x1FBFF, 0xFA)]).readByte (BitVec.ofNat 17 (0x1FA00 + 2 * 255))).toNat) %
        4096 ∧
    State.reset.comp[0].toNat / 4 % 2 = 0 ∧ (State.reset.comp.set 0 6)[0].toNat / 4 % 2 = 1 ∧
    (State.reset.comp.set 0 6)[0].toNat / 2 % 2 = 1 ∧ State.reset.cfg.grey = .weighted ∧
    (0x88#8).toNat = (10 + 12 + 2 * 5) / 4 * 17 ∧
    (List.replicate 4096 (0x123 : BitVec 12))[10 * 256 + 5 * 16 + 12]? =
      some (BitVec.ofNat 12 (1 * 256 + 2 * 16 + 3)) := by decide +kernel

/-- R340, R341, R343: entry 1 is (0xAA, 0x55, 0xCC); with CHROMA_DIS it is grey on the NTSC raster alone. -/
theorem test_palette :
    paletteRgb (withBytes [(0x1FA02, 0x5C), (0x1FA03, 0xFA)]) 1 = ⟨0xAA, 0x55, 0xCC⟩ ∧
    paletteRgb { withBytes [(0x1FA02, 0x5C), (0x1FA03, 0xFA)] with comp := State.reset.comp.set 0 6 } 1 =
      ⟨0x88, 0x88, 0x88⟩ ∧
    paletteRgb { withBytes [(0x1FA02, 0x5C), (0x1FA03, 0xFA)] with comp := State.reset.comp.set 0 5 } 1 =
      ⟨0xAA, 0x55, 0xCC⟩ := by decide +kernel

/-- Each layer mode: text, tile and bitmap, with the bitmap scrolled and not. -/
theorem witness_PixelExtraction :
    LayerRegs.reset.config.toNat / 4 % 2 = 0 ∧ LayerRegs.reset.config.toNat % 4 = 0 ∧
    (0xC3#8).toNat / 4 % 2 = 0 ∧ (0xC3#8).toNat % 4 ≠ 0 ∧ (0x07#8).toNat / 4 % 2 = 1 ∧
    State.reset.cfg.bitmapScroll = .honored ∧
    ({ State.reset with cfg := { bitmapScroll := .ignored } } : State).cfg.bitmapScroll = .ignored := by
  decide +kernel

/-- R274 to R277 by hand. Text: cell (1, 0) of the map at 0 holds glyph 1 in colours 3 on 5, whose first row is
0x80: pixel 8 is 3 and pixel 9 is 5. Tile at 8 bits a pixel, 16-wide: scroll 1 brings pixel 7 to column 8, and the
H-flip (b1 bit 2) to column 7. -/
theorem test_layer_pixels :
    layerPixel (withBytes [(2, 1), (3, 0x53), (0x808, 0x80)]) { LayerRegs.reset with tileBase := 4 } 8 0 = 3 ∧
    layerPixel (withBytes [(2, 1), (3, 0x53), (0x808, 0x80)]) { LayerRegs.reset with tileBase := 4 } 9 0 = 5 ∧
    layerPixel (withBytes [(0, 0), (1, 0x24), (0x807, 9)])
      { LayerRegs.reset with config := 3, tileBase := 5, hscrollL := 1 } 7 0 = 0x29 := by decide +kernel

theorem witness_LayerScroll :
    ({ State.reset.layer0 with hscrollH := 0xFF } : LayerRegs) = { LayerRegs.reset with hscrollH := 0xFF } := rfl

end Sys2Proof.Tests
end

section
/-! Proofs of the scope family (spec/00_scope.md): presented commands and the surroundings of the device. -/

namespace Sys2Proof.Machine

/-! ## The presented command (O5) -/

/-- A presented command that decodes is performed without standing in the queue any longer, under its own inputs. -/
theorem step_of_decode {s : State} {op : PendingOp} {rest : List PendingOp} {i : Instr} (hq : s.queue = op :: rest)
    (hd : decode s.dcsel op.command = .ok i) : step s = exec i (present op rest s) := by
  have hnext : decodeNext s op = .ok i := hd
  simp only [step, hq, hnext]

theorem step_of_queue_nil {s : State} (hq : s.queue = []) : step s = .next s := by
  simp only [step, hq]

/-- Settles O5, by the two outcomes of `step` with and without a presented command. -/
theorem stepPerformsThePresentedOperation : Obligations.StepPerformsThePresentedOperation :=
  ⟨fun _ _ _ _ hq hd _ => step_of_decode hq hd, fun _ hq => step_of_queue_nil hq⟩

/-! ## The surroundings of the device (O9) -/

/-- `t` has the parameters, the commands to come and the inputs of `s`, and the events of `s` first. -/
structure KeepsSurroundings (s t : State) : Prop where
  cfg : t.cfg = s.cfg
  queue : t.queue = s.queue
  inputs : t.inputs = s.inputs
  events : ∃ new, t.events = s.events ++ new

/-- A change of device registers alone: nothing is emitted either. -/
theorem KeepsSurroundings.of_eq {s t : State} (hc : t.cfg = s.cfg) (hq : t.queue = s.queue)
    (hi : t.inputs = s.inputs) (he : t.events = s.events) : KeepsSurroundings s t :=
  ⟨hc, hq, hi, [], by rw [he, List.append_nil]⟩

theorem KeepsSurroundings.trans {s t u : State} (h : KeepsSurroundings s t) (k : KeepsSurroundings t u) :
    KeepsSurroundings s u where
  cfg := k.cfg.trans h.cfg
  queue := k.queue.trans h.queue
  inputs := k.inputs.trans h.inputs
  events := by
    obtain ⟨first, hfirst⟩ := h.events
    obtain ⟨second, hsecond⟩ := k.events
    exact ⟨first ++ second, by rw [hsecond, hfirst, List.append_assoc]⟩

theorem KeepsSurroundings.emit (e : Event) (s : State) : KeepsSurroundings s (s.emit e) := ⟨rfl, rfl, rfl, [e], rfl⟩

theorem AdvancesOnly.keepsSurroundings {s t : State} (h : AdvancesOnly s t) : KeepsSurroundings s t := by
  rw [h.rest]
  exact .of_eq rfl rfl rfl rfl

theorem StoresOnly.keepsSurroundings {P : VAddr → Prop} {s t : State} (h : StoresOnly P s t) :
    KeepsSurroundings s t := by
  refine ⟨?_, ?_, ?_, h.emits⟩ <;> rw [h.rest]

theorem TicksOnly.keepsSurroundings {s t : State} (h : TicksOnly s t) : KeepsSurroundings s t := by
  rw [h.rest]
  exact .of_eq rfl rfl rfl rfl

/-- Any number of ticks, as one tick does, touches the raster, the interrupt status and the framebuffer at most. -/
theorem ticks_ticks : ∀ (n : Nat) (s : State) (newFrame : Bool), TicksOnly s (ticks n s newFrame).1
  | 0, s, _ => TicksOnly.refl s
  | n + 1, s, _ => (tick_ticks s).trans (ticks_ticks n _ _)

theorem reprime_keepsSurroundings (p : PortId) (s : State) : KeepsSurroundings s (reprime p s) :=
  (reprime_advances p s).keepsSurroundings

theorem setPort_keepsSurroundings (p : PortId) (q : Port) (s : State) : KeepsSurroundings s (s.setPort p q) :=
  .of_eq (by simp) (by simp) (by simp) (by simp)

theorem loadAddrL_keepsSurroundings (v : Byte) (s : State) : KeepsSurroundings s (loadAddrL v s) := by
  unfold loadAddrL
  dsimp only
  split
  · exact (setPort_keepsSurroundings _ _ s).trans (.of_eq rfl rfl rfl rfl)
  · exact setPort_keepsSurroundings _ _ s

theorem loadAddrM_keepsSurroundings (v : Byte) (s : State) : KeepsSurroundings s (loadAddrM v s) :=
  setPort_keepsSurroundings _ _ s

theorem loadAddrH_keepsSurroundings (v : Byte) (s : State) : KeepsSurroundings s (loadAddrH v s) :=
  setPort_keepsSurroundings _ _ s

theorem fillCache_keepsSurroundings (r : Byte) (s : State) : KeepsSurroundings s (fillCache r s) := by
  rw [fillCache_eq]
  exact .of_eq rfl rfl rfl rfl

theorem dataRead_keepsSurroundings (p : PortId) (s : State) : KeepsSurroundings s (dataRead p s) := by
  have primed := (primedRead_spec p s).1.keepsSurroundings
  unfold dataRead
  split
  · exact primed.trans (fillCache_keepsSurroundings _ _)
  · exact primed

theorem dataWrite_keepsSurroundings (p : PortId) (v : Byte) (s : State) : KeepsSurroundings s (dataWrite p v s) :=
  ((portAdvance_advances p true s).keepsSurroundings.trans (dataStore_stores _ _ v _).keepsSurroundings).trans
    (reprime_keepsSurroundings p _)

/-- A reset is of the device: the parameters, the inputs, the queue and the events are outside it (R430, R394). -/
theorem resetDevice_keepsSurroundings (s : State) : KeepsSurroundings s (resetDevice s) := .of_eq rfl rfl rfl rfl

/-- The answer, where there is a next state, keeps the surroundings of `s`. -/
def AnswerKeeps (s : State) (answer : Answer) : Prop := ∀ t, answer = .next t → KeepsSurroundings s t

/-- What the operation returns is no part of the surroundings. -/
theorem AnswerKeeps.returning {s t : State} (h : KeepsSurroundings s t) (r : HostResult) :
    AnswerKeeps s (.next (t.returning r)) := by
  rintro _ ⟨⟩
  exact h.trans (.of_eq rfl rfl rfl rfl)

/-- `WR CTRL`: a reset or not, and then only the CTRL fields. -/
theorem execWrCtrl_keeps (v : Byte) (s : State) : AnswerKeeps s (execWrCtrl v s) := by
  have select (t : State) : KeepsSurroundings t (selectBank v t) := .of_eq rfl rfl rfl rfl
  refine .returning (.trans ?_ (select _)) .nothing
  split
  · exact resetDevice_keepsSurroundings s
  · exact .of_eq rfl rfl rfl rfl

/-- Every operation keeps the surroundings. The named cases are the resets, the ticks, the forwarded writes and
those that move or refill a port; each remaining operation replaces device registers alone. -/
theorem exec_keeps (i : Instr) (s : State) : AnswerKeeps s (exec i s) := by
  cases i with
  | hostReset => exact .returning (resetDevice_keepsSurroundings s) _
  | wrCtrl v => exact execWrCtrl_keeps v s
  | hostStep n => exact .returning (ticks_ticks n s false).keepsSurroundings _
  | wrAudioCtrl v => exact .returning (.emit _ s) _
  | wrAudioRate v => exact .returning (.emit _ s) _
  | wrAudioData v => exact .returning (.emit _ s) _
  | wrSpiData v => exact .returning (.emit _ s) _
  | wrSpiCtrl v => exact .returning (.emit _ s) _
  | wrAddrL v => exact .returning ((loadAddrL_keepsSurroundings v s).trans (reprime_keepsSurroundings _ _)) _
  | wrAddrM v => exact .returning ((loadAddrM_keepsSurroundings v s).trans (reprime_keepsSurroundings _ _)) _
  | wrAddrH v => exact .returning ((loadAddrH_keepsSurroundings v s).trans (reprime_keepsSurroundings _ _)) _
  | rdData0 => exact .returning (dataRead_keepsSurroundings .port0 s) _
  | rdData1 => exact .returning (dataRead_keepsSurroundings .port1 s) _
  | wrData0 v => exact .returning (dataWrite_keepsSurroundings .port0 v s) _
  | wrData1 v => exact .returning (dataWrite_keepsSurroundings .port1 v s) _
  | _ =>
    rintro _ ⟨⟩
    exact .of_eq rfl rfl rfl rfl

/-- Settles O9, by what each operation keeps. -/
theorem surroundingsAreKept : Obligations.SurroundingsAreKept := by
  intro i s t h
  obtain ⟨hcfg, hqueue, hinputs, hevents⟩ := exec_keeps i s t h
  exact ⟨hcfg, hqueue, hinputs, hevents⟩

end Sys2Proof.Machine
end

section
/-! Proofs of the scope family, line draw (spec/43_fx_engine.md R235): data accesses as one notion, what they have
in common with the access in mode 0, and the carries of the x position. -/

namespace Sys2Proof.Machine

/-! ## A data access: advance, transfer, refill -/

/-- One access to a data window. -/
inductive DataAccess where
  | read
  | write (v : Byte)

/-- The operation that makes the access through port `p`. -/
def DataAccess.op (p : PortId) : DataAccess → Instr
  | .read => p.readOp
  | .write v => p.writeOp v

def DataAccess.isWrite : DataAccess → Bool
  | .read => false
  | .write _ => true

/-- What the access through port `p` returns to the host. -/
def DataAccess.result (p : PortId) (s : State) : DataAccess → HostResult
  | .read => .byte (s.port p).rdData
  | .write _ => .nothing

/-- What the access through port `p` begun in `s` does to the state `m` after the advance, but for the refill of
the port's read cache: a read fills the FX cache (R240), a write stores (R241). -/
def DataAccess.transfer (p : PortId) (s m : State) : DataAccess → State
  | .read => if s.cacheFill then fillCache (s.port p).rdData m else m
  | .write v => dataStore (s.port p).addr (s.port p).nib v m

/-- The state after the access but for its result, when the advance has led to `m`. -/
def DataAccess.finish (access : DataAccess) (p : PortId) (s m : State) : State :=
  reprime p (access.transfer p s m)

theorem DataAccess.exists_of_op {p : PortId} {v : Byte} {i : Instr} (h : i = p.readOp ∨ i = p.writeOp v) :
    ∃ access : DataAccess, i = access.op p := by
  rcases h with h | h
  · exact ⟨.read, h⟩
  · exact ⟨.write v, h⟩

@[simp] theorem reprime_comp (p : PortId) (s : State) : (reprime p s).comp = s.comp :=
  (reprime_advances p s).comp_eq

/-- The cache fill and the refill of a port's read cache do not see each other. -/
theorem fillCache_reprime (r : Byte) (p : PortId) (s : State) :
    fillCache r (reprime p s) = reprime p (fillCache r s) := by
  have hmode4 : (reprime p s).mode4 = s.mode4 := by simp [State.mode4]
  have hinc2 : (reprime p s).cacheInc2 = s.cacheInc2 := by simp [State.cacheInc2]
  have hfx : (reprime p s).fx = s.fx := State.setPort_fx s p _
  have hbyte : cacheByte (reprime p s) = cacheByte s := by simp only [cacheByte, hfx]
  have hset (fx : Fx) : (reprime p s).setFx fx = reprime p (s.setFx fx) := by cases p <;> rfl
  simp only [fillCache, hmode4, hinc2, hfx, hbyte, hset, apply_ite (reprime p)]

/-- Every data access but the affine read of port 1 is its advance, its transfer and the refill (R240, R241). -/
theorem exec_access (access : DataAccess) (p : PortId) (s : State)
    (h : access = .read → p = .port1 → s.a1Mode ≠ 3) :
    exec (access.op p) s =
      .next ((access.finish p s (portAdvance p access.isWrite s)).returning (access.result p s)) := by
  cases access with
  | write v => cases p <;> rfl
  | read =>
    have primed : primedRead p s = reprime p (portAdvance p false s) :=
      if_neg fun ⟨hp, hmode⟩ => h rfl hp hmode
    have body : dataRead p s = DataAccess.read.finish p s (portAdvance p false s) := by
      simp only [dataRead, primed, fillCache_reprime, DataAccess.finish, DataAccess.transfer, apply_ite (reprime p)]
    have answer : exec (DataAccess.read.op p) s = answerByte (s.port p).rdData (dataRead p s) := by cases p <;> rfl
    rw [answer, body]
    rfl

/-! ## What a transfer does not see -/

/-- Two composer files with the same control bits for a transfer: all of FX_CTRL but A1MODE, and FX_MULT. -/
structure ControlsAgree (comp comp' : Vector Byte 256) : Prop where
  fxCtrl : ∀ k, 2 ≤ k → comp'[8].getLsbD k = comp[8].getLsbD k
  fxMult : comp'[11] = comp[11]

theorem ControlsAgree.refl (comp : Vector Byte 256) : ControlsAgree comp comp := ⟨fun _ _ => rfl, rfl⟩

/-- Clearing A1MODE, bits 1:0 of FX_CTRL, leaves the bits above them. -/
theorem getLsbD_clearLow2 (b : Byte) {k : Nat} (hk : 2 ≤ k) :
    (BitVec.ofNat 8 (b.toNat / 4 * 4)).getLsbD k = b.getLsbD k := by
  have shifted : BitVec.ofNat 8 (b.toNat / 4 * 4) = (b >>> 2) <<< 2 := by
    apply BitVec.eq_of_toNat_eq
    simp [Nat.shiftLeft_eq, Nat.shiftRight_eq_div_pow]
  rw [shifted, BitVec.getLsbD_shiftLeft, BitVec.getLsbD_ushiftRight, Nat.add_sub_cancel' hk]
  by_cases h8 : k < 8
  · simp only [h8, Nat.not_lt.mpr hk, decide_true, decide_false, Bool.not_false, Bool.true_and]
  · simp [h8, BitVec.getLsbD_of_ge, Nat.le_of_not_lt h8]

theorem direct_fxCtrl (s : State) : s.direct.comp[8] = BitVec.ofNat 8 (s.comp[8].toNat / 4 * 4) :=
  Vector.getElem_set_self (by decide)

theorem direct_controlsAgree (s : State) : ControlsAgree s.comp s.direct.comp where
  fxCtrl k hk := by rw [direct_fxCtrl, getLsbD_clearLow2 _ hk]
  fxMult := Vector.getElem_set_ne (by decide) (by decide) (by decide)

theorem direct_a1Mode (s : State) : s.direct.a1Mode = 0 := by
  apply BitVec.eq_of_toNat_eq
  simp only [State.a1Mode, direct_fxCtrl, BitVec.extractLsb'_toNat, BitVec.toNat_ofNat, BitVec.ofNat_eq_ofNat,
    Nat.shiftRight_zero]
  omega

/-- The state in another composer file, with another port 1 and another x position. -/
def State.reframe (c : Vector Byte 256) (q : Port) (x : Fixed) (s : State) : State :=
  { s with comp := c, port1 := q, fx := { s.fx with xPos := x } }

section
variable {c : Vector Byte 256} {s : State} (q : Port) (x : Fixed)

theorem ControlsAgree.mode4 (h : ControlsAgree s.comp c) : (s.reframe c q x).mode4 = s.mode4 :=
  h.fxCtrl 2 (by decide)

theorem ControlsAgree.cacheCyc (h : ControlsAgree s.comp c) : (s.reframe c q x).cacheCyc = s.cacheCyc :=
  h.fxCtrl 4 (by decide)

theorem ControlsAgree.cacheWr (h : ControlsAgree s.comp c) : (s.reframe c q x).cacheWr = s.cacheWr :=
  h.fxCtrl 6 (by decide)

theorem ControlsAgree.transp (h : ControlsAgree s.comp c) : (s.reframe c q x).transp = s.transp :=
  h.fxCtrl 7 (by decide)

theorem ControlsAgree.subtract (h : ControlsAgree s.comp c) : (s.reframe c q x).subtract = s.subtract :=
  congrArg (BitVec.getLsbD · 5) h.fxMult

theorem ControlsAgree.multEn (h : ControlsAgree s.comp c) : (s.reframe c q x).multEn = s.multEn :=
  congrArg (BitVec.getLsbD · 4) h.fxMult

theorem ControlsAgree.cacheInc2 (h : ControlsAgree s.comp c) : (s.reframe c q x).cacheInc2 = s.cacheInc2 :=
  congrArg (BitVec.getLsbD · 0) h.fxMult

theorem reframe_readByte (a : VAddr) : (s.reframe c q x).readByte a = s.readByte a := rfl

theorem memWrite_reframe (a : VAddr) (v : Byte) : memWrite a v (s.reframe c q x) = (memWrite a v s).reframe c q x := by
  rw [memWrite_eq, memWrite_eq]
  rfl

theorem fxStore_reframe (h : ControlsAgree s.comp c) (a : VAddr) (nib : Bool) (b : Byte) :
    fxStore a nib b (s.reframe c q x) = (fxStore a nib b s).reframe c q x := by
  simp only [fxStore, h.mode4, h.transp, reframe_readByte, memWrite_reframe, apply_ite (State.reframe c q x)]

theorem cacheStore_reframe (h : ControlsAgree s.comp c) (a : VAddr) (b : Byte) (m : BitVec 2) :
    cacheStore a b m (s.reframe c q x) = (cacheStore a b m s).reframe c q x := by
  have mask : transparentMask (s.reframe c q x) b m = transparentMask s b m := by
    simp only [transparentMask, h.mode4, h.transp]
  unfold cacheStore
  rw [mask]
  split
  · exact memWrite_reframe q x _ _
  · exact memWrite_reframe q x _ _
  · exact memWrite_reframe q x _ _
  · rfl

theorem cacheWriteByte_reframe (h : ControlsAgree s.comp c) (k : Fin 4) :
    cacheWriteByte k (s.reframe c q x) = cacheWriteByte k s := by
  have hacc (sub : Bool) : accumulated sub (s.reframe c q x) = accumulated sub s := rfl
  simp only [cacheWriteByte, h.cacheCyc, h.multEn, h.subtract, hacc]
  rfl

theorem cacheWriteOne_reframe {m : State} (h : ControlsAgree s.comp c) (hm : m.comp = s.comp) (a : VAddr)
    (v : Byte) (k : Fin 4) :
    cacheWriteOne (s.reframe c q x) a v k (m.reframe c q x) = (cacheWriteOne s a v k m).reframe c q x := by
  unfold cacheWriteOne
  rw [cacheWriteByte_reframe q x h]
  exact cacheStore_reframe q x (hm ▸ h) _ _ _

theorem cacheWriteOne_comp (src : State) (a : VAddr) (v : Byte) (k : Fin 4) (m : State) :
    (cacheWriteOne src a v k m).comp = m.comp := by
  unfold cacheWriteOne
  rw [(cacheStore_stores (P := fun _ => True) _ _ _ m trivial).rest]

theorem cacheWrite_reframe (h : ControlsAgree s.comp c) (a : VAddr) (v : Byte) :
    cacheWrite a v (s.reframe c q x) = (cacheWrite a v s).reframe c q x := by
  unfold cacheWrite
  rw [cacheWriteOne_reframe q x h rfl, cacheWriteOne_reframe q x h, cacheWriteOne_reframe q x h,
    cacheWriteOne_reframe q x h] <;> simp only [cacheWriteOne_comp]

theorem dataStore_reframe (h : ControlsAgree s.comp c) (a : VAddr) (nib : Bool) (v : Byte) :
    dataStore a nib v (s.reframe c q x) = (dataStore a nib v s).reframe c q x := by
  have hbyte : cacheByte (s.reframe c q x) = cacheByte s := rfl
  simp only [dataStore, h.cacheWr, h.cacheCyc, hbyte, cacheWrite_reframe q x h, fxStore_reframe q x h,
    apply_ite (State.reframe c q x)]

theorem fillCache_reframe (h : ControlsAgree s.comp c) (r : Byte) :
    fillCache r (s.reframe c q x) = (fillCache r s).reframe c q x := by
  have hbyte : cacheByte (s.reframe c q x) = cacheByte s := rfl
  simp only [fillCache, h.mode4, h.cacheInc2, hbyte, apply_ite (State.reframe c q x)]
  rfl

theorem transfer_reframe (h : ControlsAgree s.comp c) (access : DataAccess) (p : PortId) (src : State) :
    access.transfer p src (s.reframe c q x) = (access.transfer p src s).reframe c q x := by
  cases access with
  | write v => exact dataStore_reframe q x h _ _ _
  | read => simp only [DataAccess.transfer, fillCache_reframe q x h, apply_ite (State.reframe c q x)]

end

/-- A transfer changes VRAM, the events and the FX cache with its indices at most. -/
theorem transfer_eq (access : DataAccess) (p : PortId) (src s : State) :
    access.transfer p src s =
      { s with
        mem := (access.transfer p src s).mem
        events := (access.transfer p src s).events
        fx := { s.fx with
          cache := (access.transfer p src s).fx.cache
          cByte := (access.transfer p src s).fx.cByte
          cNib := (access.transfer p src s).fx.cNib } } := by
  cases access with
  | write v =>
    unfold DataAccess.transfer
    dsimp only
    rw [(dataStore_stores _ _ v s).rest]
  | read =>
    unfold DataAccess.transfer
    dsimp only
    split
    · rw [fillCache_eq]
      rfl
    · rfl

/-! ## The access in mode 0 -/

theorem setPort_setComp (p : PortId) (port : Port) (comp : Vector Byte 256) (s : State) :
    (s.setComp comp).setPort p port = (s.setPort p port).setComp comp := by cases p <;> rfl

theorem reprime_setComp (p : PortId) (comp : Vector Byte 256) (s : State) :
    reprime p (s.setComp comp) = (reprime p s).setComp comp := by cases p <;> rfl

theorem direct_port (p : PortId) (s : State) : s.direct.port p = s.port p := s.setComp_port s.direct.comp p

theorem nibbleStep_direct (p : PortId) (s : State) :
    nibbleStep p s.direct = (nibbleStep p s).setComp s.direct.comp := by
  have hmode4 : s.direct.mode4 = s.mode4 := (direct_controlsAgree s).fxCtrl 2 (by decide)
  have hset (q : Port) : s.direct.setPort p q = (s.setPort p q).setComp s.direct.comp := setPort_setComp p q _ s
  simp only [nibbleStep, hmode4, direct_port, hset, apply_ite (State.setComp s.direct.comp)]
  rfl

theorem hopStep_direct (p : PortId) (d : Int) (a : VAddr) (s : State) : hopStep p d a s.direct = hopStep p d a s := by
  have hhop16 : s.direct.hop16 = s.hop16 := (direct_controlsAgree s).fxCtrl 3 (by decide)
  have hfx : s.direct.fx = s.fx := rfl
  simp only [hopStep, hhop16, hfx]

/-- A port's own step does not depend on the addressing mode. -/
theorem ownAdvance_direct (p : PortId) (s : State) :
    ownAdvance p s.direct = (ownAdvance p s).setComp s.direct.comp := by
  simp only [ownAdvance, movePort, portStep, nibbleStep_direct, hopStep_direct, direct_port, State.setComp_port,
    setPort_setComp]

theorem finish_setComp {comp : Vector Byte 256} {s : State} (h : ControlsAgree s.comp comp) (access : DataAccess)
    (p : PortId) (src : State) : access.finish p src (s.setComp comp) = (access.finish p src s).setComp comp := by
  have transferred : access.transfer p src (s.setComp comp) = (access.transfer p src s).setComp comp := by
    have framed := transfer_reframe s.port1 s.fx.xPos h access p src
    rw [transfer_eq access p src s] at framed ⊢
    exact framed
  unfold DataAccess.finish
  rw [transferred, reprime_setComp]

theorem finish_of_direct (access : DataAccess) (p : PortId) (s m : State) :
    access.finish p s.direct m = access.finish p s m := by
  have hfill : s.direct.cacheFill = s.cacheFill := (direct_controlsAgree s).fxCtrl 5 (by decide)
  cases access <;> simp only [DataAccess.finish, DataAccess.transfer, direct_port, hfill]

theorem result_of_direct (access : DataAccess) (p : PortId) (s : State) :
    access.result p s.direct = access.result p s := by
  cases access <;> simp only [DataAccess.result, direct_port]

/-- The state after the access in mode 0. -/
def DataAccess.directState (access : DataAccess) (p : PortId) (s : State) : State :=
  ((access.finish p s (ownAdvance p s)).setComp s.direct.comp).returning (access.result p s)

/-- In mode 0 the advance is the port's own step (R234). -/
theorem exec_access_direct (access : DataAccess) (p : PortId) (s : State) :
    exec (access.op p) s.direct = .next (access.directState p s) := by
  have mode := direct_a1Mode s
  have controls : ControlsAgree (ownAdvance p s).comp s.direct.comp := by
    rw [(ownAdvance_advances p s).comp_eq]
    exact direct_controlsAgree s
  have advance (isWrite : Bool) : portAdvance p isWrite s.direct = (ownAdvance p s).setComp s.direct.comp := by
    unfold portAdvance
    rw [couple_direct p isWrite _ ((ownAdvance_a1Mode p s.direct).trans mode), ownAdvance_direct]
  rw [exec_access access p s.direct (fun _ _ => by rw [mode]; decide), advance, finish_of_direct,
    finish_setComp controls, result_of_direct]
  rfl

/-- An access that its mode does not couple does what it does in mode 0. -/
theorem actsAsDirect_of_uncoupled (access : DataAccess) (p : PortId) (s : State)
    (hread : access = .read → p = .port1 → s.a1Mode ≠ 3)
    (hcouple : couple p access.isWrite (ownAdvance p s) = ownAdvance p s) : actsAsDirect (access.op p) s := by
  refine ⟨_, exec_access access p s hread, ?_⟩
  unfold portAdvance
  rw [hcouple, exec_access_direct]
  rfl

/-! ## What an access leaves of the advanced state -/

theorem finish_port_self (access : DataAccess) (p : PortId) (src s : State) :
    (access.finish p src s).port p =
      { s.port p with rdData := (access.transfer p src s).readByte (s.port p).addr } := by
  unfold DataAccess.finish reprime
  rw [State.setPort_port_same, transfer_eq]
  cases p <;> rfl

theorem finish_port_other {p p' : PortId} (h : p' ≠ p) (access : DataAccess) (src s : State) :
    (access.finish p src s).port p' = s.port p' := by
  unfold DataAccess.finish reprime
  rw [State.setPort_port_other _ h, transfer_eq]
  cases p' <;> rfl

/-- After the advance only the read cache of the accessed port changes in the ports. -/
theorem finish_port (access : DataAccess) (p q : PortId) (src s : State) :
    (access.finish p src s).port q = { s.port q with rdData := ((access.finish p src s).port q).rdData } := by
  by_cases h : q = p
  · rw [h, finish_port_self]
  · rw [finish_port_other h]

theorem finish_port_addr (access : DataAccess) (p q : PortId) (src s : State) :
    ((access.finish p src s).port q).addr = (s.port q).addr := by rw [finish_port]

theorem finish_port_nib (access : DataAccess) (p q : PortId) (src s : State) :
    ((access.finish p src s).port q).nib = (s.port q).nib := by rw [finish_port]

theorem finish_port_inc (access : DataAccess) (p q : PortId) (src s : State) :
    ((access.finish p src s).port q).inc = (s.port q).inc := by rw [finish_port]

theorem finish_readByte (access : DataAccess) (p : PortId) (src s : State) (a : VAddr) :
    (access.finish p src s).readByte a = (access.transfer p src s).readByte a :=
  (reprime_advances p _).readByte_eq a

/-- The FX registers but for the cache and its indices, the composer file and the parameters stay. -/
theorem finish_frame (access : DataAccess) (p : PortId) (src s : State) :
    (access.finish p src s).fx.xPos = s.fx.xPos ∧ (access.finish p src s).fx.yPos = s.fx.yPos ∧
      (access.finish p src s).fx.xInc = s.fx.xInc ∧ (access.finish p src s).comp = s.comp ∧
      (access.finish p src s).cfg = s.cfg := by
  unfold DataAccess.finish reprime
  rw [transfer_eq]
  cases p <;> exact ⟨rfl, rfl, rfl, rfl, rfl⟩

end Sys2Proof.Machine
end

section
/-! Proof of O26: an access in line-draw mode against the access in mode 0, and the sum of the carries. -/

namespace Sys2Proof.Machine

/-! ## One access to the stepping port -/

/-- The carries of the next accumulation into the integer part of the x position (R235). -/
def lineCarries (s : State) : Int := (s.fx.xPos.toInt + s.fx.xInc.toInt) / 65536 - s.fx.xPos.toInt / 65536

/-- The line-draw coupling changes port 1 and the x position alone. -/
theorem coupleLine_eq_reframe (p : PortId) (s : State) :
    coupleLine p s = s.reframe s.comp (coupleLine p s).port1 (coupleLine p s).fx.xPos := by
  unfold coupleLine
  dsimp only
  (repeat' split) <;> rfl

/-- Coupled to port 0, port 1's read cache is refilled by a carry and by nothing else. -/
theorem coupleLine_port1_rdData (s : State) :
    (coupleLine .port0 s).port1.rdData =
      if lineCarries s = 0 then s.port1.rdData else s.readByte (coupleLine .port0 s).port1.addr := by
  unfold coupleLine lineCarries fixedFloor
  dsimp only
  split <;> rfl

theorem ownAdvance_inc0 (p : PortId) (s : State) : (ownAdvance p s).port0.inc = s.port0.inc :=
  (ownAdvance_advances p s).port0_inc

/-- After the own advance the coupling moves port 1 by port 0's step for every carry. -/
theorem coupleLine_ownAdvance_port1 (p : PortId) (s : State) :
    (coupleLine p (ownAdvance p s)).port1.nib = (ownAdvance p s).port1.nib ∧
      (coupleLine p (ownAdvance p s)).port1.addr =
        (ownAdvance p s).port1.addr + BitVec.ofInt 17 (lineCarries s * stepOf s.port0.inc) := by
  obtain ⟨hnib, haddr⟩ := coupleLine_port1 p (ownAdvance p s)
  refine ⟨hnib, haddr.trans ?_⟩
  simp only [ownAdvance_fx, portStep, State.port_port0, ownAdvance_inc0]
  rfl

/-- The state after an access to the stepping port in line-draw mode. -/
def DataAccess.lineState (access : DataAccess) (p : PortId) (s : State) : State :=
  (access.finish p s (coupleLine p (ownAdvance p s))).returning (access.result p s)

theorem exec_access_line (access : DataAccess) {p : PortId} {s : State} (hmode : s.a1Mode = 1)
    (hp : p = s.cfg.lineStepPort) : exec (access.op p) s = .next (access.lineState p s) := by
  have hcfg : (ownAdvance p s).cfg = s.cfg := by rw [(ownAdvance_advances p s).rest]
  have advance (isWrite : Bool) : portAdvance p isWrite s = coupleLine p (ownAdvance p s) :=
    couple_line_stepping p isWrite _ ((ownAdvance_a1Mode p s).trans hmode) (by rw [hcfg, hp])
  rw [exec_access access p s (fun _ _ => by rw [hmode]; decide), advance]
  rfl

/-- The line-draw access stores, and so reads back, what the access in mode 0 does. -/
theorem transfer_coupleLine_readByte (access : DataAccess) (p : PortId) (src s : State) (a : VAddr) :
    (access.transfer p src (coupleLine p s)).readByte a = (access.transfer p src s).readByte a := by
  rw [coupleLine_eq_reframe, transfer_reframe _ _ (.refl s.comp)]
  rfl

theorem lineState_port (access : DataAccess) (p q : PortId) (s : State) :
    (access.lineState p s).port q = (access.finish p s (coupleLine p (ownAdvance p s))).port q :=
  State.returning_port _ _ q

theorem directState_port (access : DataAccess) (p q : PortId) (s : State) :
    (access.directState p s).port q = (access.finish p s (ownAdvance p s)).port q :=
  (State.returning_port _ _ q).trans (State.setComp_port _ _ q)

theorem coupleLine_port0 (p : PortId) (s : State) : (coupleLine p s).port0 = s.port0 := by
  rw [coupleLine_eq_reframe]
  rfl

/-- Port 0 is after a line-draw access what it is in mode 0. -/
theorem lineState_port0 (access : DataAccess) (p : PortId) (s : State) :
    (access.lineState p s).port .port0 = (access.directState p s).port .port0 := by
  rw [lineState_port, directState_port]
  cases p with
  | port0 =>
    rw [finish_port_self, finish_port_self, transfer_coupleLine_readByte, State.port_port0, coupleLine_port0]
    rfl
  | port1 =>
    rw [finish_port_other (by decide), finish_port_other (by decide)]
    exact coupleLine_port0 _ _

/-- Port 1's nibble select is after a line-draw access what it is in mode 0, and its address is that of mode 0 moved
by port 0's step for every carry. -/
theorem lineState_port1 (access : DataAccess) (p : PortId) (s : State) :
    ((access.lineState p s).port .port1).nib = ((access.directState p s).port .port1).nib ∧
      ((access.lineState p s).port .port1).addr =
        ((access.directState p s).port .port1).addr + BitVec.ofInt 17 (lineCarries s * stepOf s.port0.inc) := by
  obtain ⟨hnib, haddr⟩ := coupleLine_ownAdvance_port1 p s
  rw [lineState_port, directState_port, finish_port_addr, finish_port_addr, finish_port_nib, finish_port_nib]
  exact ⟨hnib, haddr⟩

/-- A line-draw access accumulates the x increment, and keeps the y position, the x increment, port 0's increment
index, the composer file and the parameters. -/
theorem lineState_frame (access : DataAccess) (p : PortId) (s : State) :
    (access.lineState p s).fx.xPos = s.fx.xPos + s.fx.xInc ∧ (access.lineState p s).fx.yPos = s.fx.yPos ∧
      (access.lineState p s).fx.xInc = s.fx.xInc ∧ (access.lineState p s).port0.inc = s.port0.inc ∧
      (access.lineState p s).comp = s.comp ∧ (access.lineState p s).cfg = s.cfg := by
  have advanced := (ownAdvance_advances p s).trans (coupleLine_advances p _)
  obtain ⟨hx, hy, hinc, hcomp, hcfg⟩ := finish_frame access p s (coupleLine p (ownAdvance p s))
  have hfx : (coupleLine p (ownAdvance p s)).fx = { s.fx with xPos := s.fx.xPos + s.fx.xInc } := by
    rw [coupleLine_fx, ownAdvance_fx]
  rw [hfx] at hx hy hinc
  refine ⟨hx, hy, hinc, ?_, hcomp.trans advanced.comp_eq, hcfg.trans (by rw [advanced.rest])⟩
  exact (finish_port_inc access p .port0 s _).trans advanced.port0_inc

/-- A port's own step leaves the other port. -/
theorem ownAdvance_port_other {p q : PortId} (h : q ≠ p) (s : State) : (ownAdvance p s).port q = s.port q := by
  rw [ownAdvance_eq, State.setPort_port_other _ h]

/-- Stepped by port 0, port 1 keeps its nibble select, moves by port 0's step for every carry, and has its read cache
refilled by a carry alone. -/
theorem lineState_steppedByPort0 (access : DataAccess) (s : State) {t : State} (ht : t = access.lineState .port0 s) :
    t.port1.nib = s.port1.nib ∧
      t.port1.addr = s.port1.addr + BitVec.ofInt 17 (lineCarries s * stepOf s.port0.inc) ∧
      t.port1.rdData = if lineCarries s = 0 then s.port1.rdData else s.readByte t.port1.addr := by
  have hport : t.port1 = (coupleLine .port0 (ownAdvance .port0 s)).port1 := by
    rw [ht, ← State.port_port1, lineState_port, finish_port_other (by decide), State.port_port1]
  have hown : (ownAdvance .port0 s).port1 = s.port1 :=
    ownAdvance_port_other (p := .port0) (q := .port1) (by decide) s
  have hcarries : lineCarries (ownAdvance .port0 s) = lineCarries s := by
    simp only [lineCarries, ownAdvance_fx]
  obtain ⟨hnib, haddr⟩ := coupleLine_ownAdvance_port1 .port0 s
  have hdata := coupleLine_port1_rdData (ownAdvance .port0 s)
  rw [(ownAdvance_advances .port0 s).readByte_eq, hcarries, hown] at hdata
  rw [hown] at hnib haddr
  rw [hport]
  exact ⟨hnib, haddr, hdata⟩

/-- Stepped by port 1, port 0 stays and the access refills port 1's read cache from its new address. -/
theorem lineState_steppedByPort1 (access : DataAccess) (s : State) {t : State} (ht : t = access.lineState .port1 s) :
    t.port0 = s.port0 ∧ t.port1.rdData = t.readByte t.port1.addr := by
  constructor
  · rw [ht, ← State.port_port0, lineState_port, finish_port_other (by decide), State.port_port0, coupleLine_port0]
    exact ownAdvance_port_other (p := .port1) (q := .port0) (by decide) s
  · rw [ht, ← State.port_port1, lineState_port, finish_port_self]
    exact (finish_readByte access .port1 s _ _).symm

/-! ## The sum of the carries -/

/-- Wrapping to 32 bits keeps the fraction of a position. -/
theorem fraction_add (x y : Fixed) : (x + y).toInt % 65536 = (x.toInt + y.toInt) % 65536 := by
  have hdvd : (65536 : Int) ∣ ((2 ^ 32 : Nat) : Int) := by decide
  rw [BitVec.toInt_add, ← Int.emod_emod_of_dvd _ hdvd, Int.bmod_emod, Int.emod_emod_of_dvd _ hdvd]

theorem fraction_eq_zero {x : Fixed} (h : x.toNat % 65536 = 0) : x.toInt % 65536 = 0 := by
  rw [BitVec.toInt_eq_toNat_cond]
  split <;> omega

/-- The carries of one accumulation and the carries of `n` more are the carries of `n + 1`: only the fraction of the
position matters. -/
theorem carries_succ (pos next inc rest : Int) (h : next % 65536 = (pos + inc) % 65536) :
    ((pos + inc) / 65536 - pos / 65536) + (next % 65536 + rest) / 65536 = (pos % 65536 + (rest + inc)) / 65536 := by
  omega

/-- `n` accesses to a stepping port 0 move port 1 by port 0's step once for every whole unit that the fraction of the
x position and `n` increments come to. -/
theorem repeatOp_line (access : DataAccess) (n : Nat) : ∀ s : State, s.a1Mode = 1 → .port0 = s.cfg.lineStepPort →
    ∃ t, repeatOp (access.op .port0) n s = .next t ∧
      t.port1.addr = s.port1.addr +
        BitVec.ofInt 17 ((s.fx.xPos.toInt % 65536 + n * s.fx.xInc.toInt) / 65536 * stepOf s.port0.inc) := by
  induction n with
  | zero =>
    intro s _ _
    have none : (s.fx.xPos.toInt % 65536 + (0 : Nat) * s.fx.xInc.toInt) / 65536 = 0 := by omega
    exact ⟨s, rfl, by rw [none]; simp⟩
  | succ n ih =>
    intro s hmode hport
    obtain ⟨hx, -, hinc, hstep, hcomp, hcfg⟩ := lineState_frame access .port0 s
    obtain ⟨-, hfirst, -⟩ := lineState_steppedByPort0 access s rfl
    have hmode' : (access.lineState .port0 s).a1Mode = 1 := by rw [State.a1Mode, hcomp]; exact hmode
    obtain ⟨t, hrun, haddr⟩ := ih _ hmode' (by rw [hcfg]; exact hport)
    refine ⟨t, ?_, ?_⟩
    · rw [repeatOp, exec_access_line access hmode hport]
      exact hrun
    · have hsum := carries_succ s.fx.xPos.toInt _ s.fx.xInc.toInt (n * s.fx.xInc.toInt)
        (fraction_add s.fx.xPos s.fx.xInc)
      have hcount : ((n + 1 : Nat) : Int) * s.fx.xInc.toInt = n * s.fx.xInc.toInt + s.fx.xInc.toInt := by
        push_cast
        ring
      rw [haddr, hfirst, hx, hinc, hstep, BitVec.add_assoc, ← BitVec.ofInt_add, ← Int.add_mul, lineCarries, hsum,
        hcount]

/-! ## The obligation -/

/-- Settles O26: the access in line-draw mode against the access in mode 0, and the sum of the carries. -/
theorem lineDrawCarries : Obligations.LineDrawCarries := by
  intro p s v i hi hmode
  obtain ⟨access, rfl⟩ := DataAccess.exists_of_op hi
  refine ⟨fun hp => ?_, fun hp => ⟨?_, ?_⟩⟩
  · have hcfg : (ownAdvance p s).cfg = s.cfg := by rw [(ownAdvance_advances p s).rest]
    exact actsAsDirect_of_uncoupled access p s (fun _ _ => by rw [hmode]; decide)
      (couple_line_other p _ _ ((ownAdvance_a1Mode p s).trans hmode) (by rw [hcfg]; exact hp))
  · rintro _ _ rfl rfl
    obtain ⟨hx, hy, -⟩ := lineState_frame access p s
    obtain ⟨hnib, haddr⟩ := lineState_port1 access p s
    refine ⟨_, _, exec_access_line access hmode hp, exec_access_direct access p s, ?_, hy, lineState_port0 access p s,
      hnib, haddr, ?_, ?_⟩
    · rw [hx, BitVec.ofInt_add, BitVec.ofInt_toInt, BitVec.ofInt_toInt]
    · rintro rfl
      exact lineState_steppedByPort0 access s rfl
    · rintro rfl
      exact lineState_steppedByPort1 access s rfl
  · rintro rfl hzero n
    obtain ⟨t, hrun, haddr⟩ := repeatOp_line access n s hmode hp
    rw [fraction_eq_zero hzero, Int.zero_add] at haddr
    exact ⟨t, hrun, haddr⟩

end Sys2Proof.Machine
end

section
/-! Proofs of the state family (spec/10_state.md): what an operation other than STEP and a reset leaves alone, the
motion of the two beams, and the invariant. -/

namespace Sys2Proof.Machine

/-! ## The raster is outside the host's reach (O10) -/

/-- `t` has the parameters, the counters, the collision accumulator and the framebuffer of `s`, and VRAM in canonical
form where `s` has it so. -/
structure KeepsRaster (s t : State) : Prop where
  cfg : t.cfg = s.cfg
  scan : t.scan = s.scan
  collAcc : t.collAcc = s.collAcc
  fb : t.fb = s.fb
  wf : Memory.wf s.cfg s.mem = true → Memory.wf t.cfg t.mem = true

theorem KeepsRaster.of_mem_eq {s t : State} (hcfg : t.cfg = s.cfg) (hscan : t.scan = s.scan)
    (hcoll : t.collAcc = s.collAcc) (hfb : t.fb = s.fb) (hmem : t.mem = s.mem) : KeepsRaster s t :=
  ⟨hcfg, hscan, hcoll, hfb, fun hw => by rw [hcfg, hmem]; exact hw⟩

theorem KeepsRaster.trans {s t u : State} (h : KeepsRaster s t) (k : KeepsRaster t u) : KeepsRaster s u where
  cfg := k.cfg.trans h.cfg
  scan := k.scan.trans h.scan
  collAcc := k.collAcc.trans h.collAcc
  fb := k.fb.trans h.fb
  wf := fun hw => k.wf (h.wf hw)

theorem AdvancesOnly.keepsRaster {s t : State} (h : AdvancesOnly s t) : KeepsRaster s t := by
  rw [h.rest]
  exact .of_mem_eq rfl rfl rfl rfl rfl

theorem StoresOnly.keepsRaster {P : VAddr → Prop} {s t : State} (h : StoresOnly P s t) : KeepsRaster s t := by
  refine ⟨?_, ?_, ?_, ?_, h.wf⟩ <;> rw [h.rest]

theorem setPort_keepsRaster (p : PortId) (q : Port) (s : State) : KeepsRaster s (s.setPort p q) :=
  .of_mem_eq (by simp) (by simp) (by simp) (by simp) (by simp)

theorem reprime_keepsRaster (p : PortId) (s : State) : KeepsRaster s (reprime p s) := setPort_keepsRaster p _ s

theorem loadAddrL_keepsRaster (v : Byte) (s : State) : KeepsRaster s (loadAddrL v s) := by
  unfold loadAddrL
  dsimp only
  split
  · exact (setPort_keepsRaster _ _ s).trans (.of_mem_eq rfl rfl rfl rfl rfl)
  · exact setPort_keepsRaster _ _ s

theorem dataRead_keepsRaster (p : PortId) (s : State) : KeepsRaster s (dataRead p s) := by
  have primed := (primedRead_spec p s).1.keepsRaster
  unfold dataRead
  split
  · rw [fillCache_eq]
    exact primed.trans (.of_mem_eq rfl rfl rfl rfl rfl)
  · exact primed

theorem dataWrite_keepsRaster (p : PortId) (v : Byte) (s : State) : KeepsRaster s (dataWrite p v s) :=
  ((portAdvance_advances p true s).keepsRaster.trans (dataStore_stores _ _ v _).keepsRaster).trans
    (reprime_keepsRaster p _)

/-- The answer, where there is a next state, keeps the raster of `s`. -/
def AnswerKeepsRaster (s : State) (answer : Answer) : Prop := ∀ t, answer = .next t → KeepsRaster s t

theorem AnswerKeepsRaster.returning {s t : State} (h : KeepsRaster s t) (r : HostResult) :
    AnswerKeepsRaster s (.next (t.returning r)) := by
  rintro _ ⟨⟩
  exact h.trans (.of_mem_eq rfl rfl rfl rfl rfl)

theorem selectBank_keepsRaster (v : Byte) (s : State) : KeepsRaster s (selectBank v s) :=
  .of_mem_eq rfl rfl rfl rfl rfl

/-- A bit of a byte, by arithmetic. -/
theorem getLsbD_eq_decide (v : Byte) (k : Nat) : v.getLsbD k = decide (v.toNat / 2 ^ k % 2 = 1) :=
  Nat.testBit_eq_decide_div_mod_eq

/-- `WR CTRL` with bit 7 clear selects the bank and does no more (R151). -/
theorem exec_wrCtrl_of_not_resets {v : Byte} (h : ¬ (Instr.wrCtrl v).resets) (s : State) :
    exec (.wrCtrl v) s = .next ((selectBank v s).returning .nothing) := by
  have hv : v.toNat < 128 := Nat.lt_of_not_le h
  have hbit : ¬ v.getLsbD 7 = true := by
    rw [getLsbD_eq_decide, decide_eq_true_eq]
    omega
  exact congrArg (fun m => Host.Outcome.next ((selectBank v m).returning .nothing)) (if_neg hbit)

/-- `WR CTRL` with bit 7 set resets the device and then selects the bank (R151, R432). -/
theorem exec_wrCtrl_of_resets {v : Byte} (h : (Instr.wrCtrl v).resets) (s : State) :
    exec (.wrCtrl v) s = .next ((selectBank v (resetDevice s)).returning .nothing) := by
  have hv : 128 ≤ v.toNat := h
  have hbit : v.getLsbD 7 = true := by
    have := v.isLt
    rw [getLsbD_eq_decide, decide_eq_true_eq]
    omega
  exact congrArg (fun m => Host.Outcome.next ((selectBank v m).returning .nothing)) (if_pos hbit)

/-- Every operation but STEP and a reset keeps the raster. The named cases move or refill a port or store in VRAM;
each remaining operation replaces other device registers alone. -/
theorem exec_keepsRaster (i : Instr) (s : State) (hstep : ¬ i.steps) (hreset : ¬ i.resets) :
    AnswerKeepsRaster s (exec i s) := by
  cases i with
  | hostStep n => exact absurd trivial hstep
  | hostReset => exact absurd trivial hreset
  | wrCtrl v =>
    rw [exec_wrCtrl_of_not_resets hreset]
    exact .returning (selectBank_keepsRaster v s) _
  | wrAddrL v => exact .returning ((loadAddrL_keepsRaster v s).trans (reprime_keepsRaster _ _)) _
  | wrAddrM v => exact .returning ((setPort_keepsRaster _ _ s).trans (reprime_keepsRaster _ _)) _
  | wrAddrH v => exact .returning ((setPort_keepsRaster _ _ s).trans (reprime_keepsRaster _ _)) _
  | rdData0 => exact .returning (dataRead_keepsRaster .port0 s) _
  | rdData1 => exact .returning (dataRead_keepsRaster .port1 s) _
  | wrData0 v => exact .returning (dataWrite_keepsRaster .port0 v s) _
  | wrData1 v => exact .returning (dataWrite_keepsRaster .port1 v s) _
  | _ =>
    rintro _ ⟨⟩
    exact .of_mem_eq rfl rfl rfl rfl rfl

/-- Settles O10, by what each operation other than STEP and a reset keeps. -/
theorem onlyStepAndResetTouchTheRaster : Obligations.OnlyStepAndResetTouchTheRaster := by
  intro i s t h hstep hreset
  have keeps := exec_keepsRaster i s hstep hreset t h
  exact ⟨keeps.scan, keeps.collAcc, keeps.fb⟩

end Sys2Proof.Machine
end

section
/-! Proofs of the state family: how a tick moves the two beams (spec/47_scan_timing.md R352 to R355). -/

namespace Sys2Proof.Machine

/-! ## The counters of one tick -/

/-- The counters after a tick of the VGA raster (R354): the next pixel, at the line's end the next line, at the
frame's end the first. -/
def Scan.nextVga (x : Scan) : Scan :=
  if x.vgaX + 1 = 800 then { x with vgaX := 0, vgaY := if x.vgaY + 1 = 525 then 0 else x.vgaY + 1 }
  else { x with vgaX := x.vgaX + 1 }

/-- The counters after a tick of the NTSC raster with half-lines of `halfW` pixels (R355): likewise, and FIELD set
at the end of the low field, cleared at the end of the high one. -/
def Scan.nextNtsc (halfW : Nat) (x : Scan) : Scan :=
  if x.ntscX + 1 = halfW then
    { x with
      ntscX := 0
      ntscY := if x.ntscY + 1 = 1050 then 0 else x.ntscY + 1
      field := if x.ntscY + 1 = 525 then true else if x.ntscY + 1 = 1050 then false else x.field }
  else { x with ntscX := x.ntscX + 1 }

/-- `t` is `s` after interrupt events: the interrupt status and the collision accumulator at most. -/
structure SignalsOnly (s t : State) : Prop where
  rest : t = { s with isr := t.isr, collAcc := t.collAcc }

theorem SignalsOnly.refl (s : State) : SignalsOnly s s := ⟨rfl⟩

theorem SignalsOnly.trans {s t u : State} (h : SignalsOnly s t) (k : SignalsOnly t u) : SignalsOnly s u :=
  ⟨by rw [k.rest, h.rest]⟩

theorem SignalsOnly.scan_eq {s t : State} (h : SignalsOnly s t) : t.scan = s.scan := by rw [h.rest]

theorem SignalsOnly.fb_eq {s t : State} (h : SignalsOnly s t) : t.fb = s.fb := by rw [h.rest]

theorem lineCompare_signals (line : Int) (compare : BitVec 9) (s : State) :
    SignalsOnly s (lineCompare line compare s) := by
  unfold lineCompare
  split <;> exact ⟨rfl⟩

theorem boundaryIf_signals (active : Bool) (s : State) : SignalsOnly s (boundaryIf active s).1 := by
  unfold boundaryIf
  split <;> exact ⟨rfl⟩

/-- After the beam has moved a line's end only signals: the frame boundary where the raster wraps, and the line
compare. -/
theorem lineEnd_signals {wraps : Prop} [Decidable wraps] (active : Bool) (line : Int) (compare : BitVec 9)
    (moved : State) :
    SignalsOnly moved
      (if active then lineCompare line compare (if wraps then boundaryIf active moved else (moved, false)).1
      else (if wraps then boundaryIf active moved else (moved, false)).1) := by
  have boundary : SignalsOnly moved (if wraps then boundaryIf active moved else (moved, false)).1 := by
    split
    · exact boundaryIf_signals active moved
    · exact .refl moved
  split
  · exact boundary.trans (lineCompare_signals _ _ _)
  · exact boundary

theorem RendersOnly.scan_eq {s t : State} (h : RendersOnly s t) : t.scan = s.scan := by rw [h.rest]

theorem rendered_scan {s r : State} (active : Bool) (h : RendersOnly s r) :
    (if active then r else s).scan = s.scan := by
  split
  · exact h.scan_eq
  · rfl

/-- A line's end moves the VGA beam and leaves the framebuffer as the render of the line, while the raster is active,
left it. -/
theorem endVgaLine_beam (s : State) :
    (endVgaLine s).1.scan =
        { s.scan with vgaX := 0, vgaY := if s.scan.vgaY + 1 = 525 then 0 else s.scan.vgaY + 1 } ∧
      (endVgaLine s).1.fb = (if !s.ntscActive then renderLine s.scan.vgaY s else s).fb := by
  have signals := lineEnd_signals (wraps := s.scan.vgaY + 1 = 525) (!s.ntscActive)
    (if s.scan.vgaY + 1 = 525 then 0 else s.scan.vgaY + 1 : Nat) s.irqLine
  refine ⟨(signals _).scan_eq.trans ?_, (signals _).fb_eq⟩
  rw [State.setScan_scan, rendered_scan _ (renderLine_renders _ s)]

theorem endHalfLine_beam (s : State) :
    (endHalfLine s).1.scan =
        { s.scan with
          ntscX := 0
          ntscY := if s.scan.ntscY + 1 = 1050 then 0 else s.scan.ntscY + 1
          field :=
            if s.scan.ntscY + 1 = 525 then true else if s.scan.ntscY + 1 = 1050 then false else s.scan.field } ∧
      (endHalfLine s).1.fb = (if s.ntscActive then renderHalfLine s else s).fb := by
  have signals := lineEnd_signals (wraps := s.scan.ntscY + 1 = 525 ∨ s.scan.ntscY + 1 = 1050) s.ntscActive
    (fieldOffset s.cfg (if s.scan.ntscY + 1 = 1050 then 0 else s.scan.ntscY + 1))
    (fieldCompare s.irqLine (if s.scan.ntscY + 1 = 1050 then 0 else s.scan.ntscY + 1))
  refine ⟨(signals _).scan_eq.trans ?_, (signals _).fb_eq⟩
  rw [State.setScan_scan, rendered_scan _ (renderHalfLine_renders s)]

theorem tickVga_scan (s : State) : (tickVga s).1.scan = s.scan.nextVga := by
  unfold tickVga Scan.nextVga
  split
  · exact (endVgaLine_beam s).1
  · rfl

theorem tickNtsc_scan (s : State) : (tickNtsc s).1.scan = s.scan.nextNtsc s.cfg.ntscHalfW := by
  unfold tickNtsc Scan.nextNtsc
  split
  · exact (endHalfLine_beam s).1
  · rfl

theorem TicksOnly.cfg_eq {s t : State} (h : TicksOnly s t) : t.cfg = s.cfg := by rw [h.rest]

theorem TicksOnly.mem_eq {s t : State} (h : TicksOnly s t) : t.mem = s.mem := by rw [h.rest]

/-- A tick moves both beams by one pixel, whichever raster is active (R352). -/
theorem tick_scan (s : State) : (tick s).1.scan = s.scan.nextVga.nextNtsc s.cfg.ntscHalfW :=
  (tickNtsc_scan _).trans (by rw [tickVga_scan, (tickVga_ticks s).cfg_eq])

/-! ## The ranges of the counters -/

/-- The counters are in the ranges of R43 with half-lines of `halfW` pixels, and FIELD is that of R45. -/
structure Scan.InRange (halfW : Nat) (x : Scan) : Prop where
  vgaX : x.vgaX < 800
  vgaY : x.vgaY < 525
  ntscX : x.ntscX < halfW
  ntscY : x.ntscY < 1050
  field : x.field = decide (525 ≤ x.ntscY)

theorem Scan.InRange.nextVga {halfW : Nat} {x : Scan} (h : x.InRange halfW) : x.nextVga.InRange halfW := by
  obtain ⟨hvgaX, hvgaY, hntscX, hntscY, hfield⟩ := h
  unfold Scan.nextVga
  split
  · exact ⟨Nat.succ_pos 799, by dsimp only; split <;> omega, hntscX, hntscY, hfield⟩
  · exact ⟨by dsimp only; omega, hvgaY, hntscX, hntscY, hfield⟩

theorem Scan.InRange.nextNtsc {halfW : Nat} {x : Scan} (h : x.InRange halfW) : (x.nextNtsc halfW).InRange halfW := by
  obtain ⟨hvgaX, hvgaY, hntscX, hntscY, hfield⟩ := h
  unfold Scan.nextNtsc
  split
  · refine ⟨hvgaX, hvgaY, by dsimp only; omega, by dsimp only; split <;> omega, ?_⟩
    dsimp only
    rw [hfield]
    by_cases hlow : x.ntscY + 1 = 525
    · rw [if_pos hlow, if_neg (by omega), decide_eq_true (by omega)]
    · rw [if_neg hlow]
      by_cases hhigh : x.ntscY + 1 = 1050
      · rw [if_pos hhigh, if_pos hhigh]
        rfl
      · rw [if_neg hhigh, if_neg hhigh, decide_eq_decide]
        omega
  · exact ⟨hvgaX, hvgaY, by dsimp only; omega, hntscY, hfield⟩

/-! ## The positions of the beams (O51) -/

theorem beam_lt {w h x y : Nat} (hx : x < w) (hy : y < h) : y * w + x < w * h :=
  calc y * w + x < y * w + w := Nat.add_lt_add_left hx _
    _ = (y + 1) * w := (Nat.succ_mul y w).symm
    _ ≤ h * w := Nat.mul_le_mul_right w hy
    _ = w * h := Nat.mul_comm h w

/-- A beam at column `x` of line `y`, of `h` lines of `w` columns, moved by one column: its position in the frame
goes up by one, modulo the frame. -/
theorem beam_next {w h x y : Nat} (hx : x < w) (hy : y < h) :
    (if x + 1 = w then (if y + 1 = h then 0 else y + 1) else y) * w + (if x + 1 = w then 0 else x + 1) =
      (y * w + x + 1) % (w * h) := by
  by_cases hend : x + 1 = w
  · have hpos : y * w + x + 1 = (y + 1) * w := by rw [Nat.add_assoc, hend, Nat.succ_mul]
    rw [if_pos hend, if_pos hend, hpos, Nat.add_zero, Nat.mul_comm w h]
    by_cases hlast : y + 1 = h
    · rw [if_pos hlast, hlast, Nat.mod_self, Nat.zero_mul]
    · have hlt : y + 1 < h := by omega
      rw [if_neg hlast, Nat.mod_eq_of_lt (Nat.mul_lt_mul_of_pos_right hlt (by omega))]
  · have hlt : y * w + (x + 1) < w * h := beam_lt (by omega) hy
    rw [if_neg hend, if_neg hend, Nat.add_assoc, Nat.mod_eq_of_lt hlt]

/-- Where the VGA beam stands in its frame of 800 * 525 pixels. -/
def Scan.vgaPosition (x : Scan) : Nat := x.vgaY * 800 + x.vgaX

/-- Where the NTSC beam stands in its frame of 1050 half-lines of `halfW` pixels. -/
def Scan.ntscPosition (halfW : Nat) (x : Scan) : Nat := x.ntscY * halfW + x.ntscX

theorem Scan.InRange.vgaPosition_lt {halfW : Nat} {x : Scan} (h : x.InRange halfW) : x.vgaPosition < 420000 :=
  beam_lt h.vgaX h.vgaY

theorem Scan.InRange.ntscPosition_lt {halfW : Nat} {x : Scan} (h : x.InRange halfW) :
    x.ntscPosition halfW < halfW * 1050 := beam_lt h.ntscX h.ntscY

/-- A tick of one raster leaves the beam of the other. -/
theorem nextNtsc_vgaPosition (halfW : Nat) (x : Scan) : (x.nextNtsc halfW).vgaPosition = x.vgaPosition := by
  unfold Scan.nextNtsc
  split <;> rfl

theorem nextVga_ntscPosition (halfW : Nat) (x : Scan) : x.nextVga.ntscPosition halfW = x.ntscPosition halfW := by
  unfold Scan.nextVga
  split <;> rfl

theorem nextVga_vgaPosition {halfW : Nat} {x : Scan} (h : x.InRange halfW) :
    x.nextVga.vgaPosition = (x.vgaPosition + 1) % 420000 := by
  refine Eq.trans ?_ (beam_next h.vgaX h.vgaY)
  unfold Scan.nextVga Scan.vgaPosition
  split <;> rfl

theorem nextNtsc_ntscPosition {halfW : Nat} {x : Scan} (h : x.InRange halfW) :
    (x.nextNtsc halfW).ntscPosition halfW = (x.ntscPosition halfW + 1) % (halfW * 1050) := by
  refine Eq.trans ?_ (beam_next h.ntscX h.ntscY)
  unfold Scan.nextNtsc Scan.ntscPosition
  split <;> rfl

/-- A tick moves both beams by one pixel in their frames. -/
theorem tick_positions {s : State} (h : s.scan.InRange s.cfg.ntscHalfW) :
    (tick s).1.scan.vgaPosition = (s.scan.vgaPosition + 1) % 420000 ∧
      (tick s).1.scan.ntscPosition s.cfg.ntscHalfW =
        (s.scan.ntscPosition s.cfg.ntscHalfW + 1) % (s.cfg.ntscHalfW * 1050) := by
  rw [tick_scan]
  refine ⟨?_, ?_⟩
  · rw [nextNtsc_vgaPosition, nextVga_vgaPosition h]
  · rw [nextNtsc_ntscPosition h.nextVga, nextVga_ntscPosition]

theorem tick_inRange {s : State} (h : s.scan.InRange s.cfg.ntscHalfW) :
    (tick s).1.scan.InRange (tick s).1.cfg.ntscHalfW := by
  rw [tick_scan, (tick_ticks s).cfg_eq]
  exact h.nextVga.nextNtsc

/-- Whether a tick before them ended a frame does not matter to the state after `n` ticks. -/
theorem ticks_state : ∀ (n : Nat) (s : State) (newFrame : Bool), (ticks n s newFrame).1 = afterTicks n s
  | 0, _, _ => rfl
  | n + 1, s, _ => (ticks_state n _ _).trans (ticks_state n (tick s).1 (false || (tick s).2)).symm

theorem afterTicks_succ (n : Nat) (s : State) : afterTicks (n + 1) s = afterTicks n (tick s).1 :=
  ticks_state n _ _

/-- What holds of a state and is kept by every tick holds after any number of ticks. -/
theorem afterTicks_induct {motive : State → Prop} (hkeep : ∀ s, motive s → motive (tick s).1) :
    ∀ (n : Nat) (s : State), motive s → motive (afterTicks n s)
  | 0, _, h => h
  | n + 1, s, h => by
    rw [afterTicks_succ]
    exact afterTicks_induct hkeep n _ (hkeep s h)

/-- `n` ticks move both beams by `n` pixels, modulo their frames. -/
theorem afterTicks_positions (n : Nat) : ∀ s : State, s.scan.InRange s.cfg.ntscHalfW →
    (afterTicks n s).scan.vgaPosition = (s.scan.vgaPosition + n) % 420000 ∧
      (afterTicks n s).scan.ntscPosition s.cfg.ntscHalfW =
        (s.scan.ntscPosition s.cfg.ntscHalfW + n) % (s.cfg.ntscHalfW * 1050) := by
  induction n with
  | zero =>
    intro s h
    rw [Nat.add_zero, Nat.add_zero, Nat.mod_eq_of_lt h.vgaPosition_lt, Nat.mod_eq_of_lt h.ntscPosition_lt]
    exact ⟨rfl, rfl⟩
  | succ n ih =>
    intro s h
    obtain ⟨hvga, hntsc⟩ := ih _ (tick_inRange h)
    obtain ⟨hvga1, hntsc1⟩ := tick_positions h
    rw [(tick_ticks s).cfg_eq] at hntsc
    rw [afterTicks_succ, hvga, hntsc, hvga1, hntsc1, Nat.mod_add_mod, Nat.mod_add_mod, Nat.add_assoc, Nat.add_assoc,
      Nat.add_comm 1 n]
    exact ⟨rfl, rfl⟩

theorem State.Inv.inRange {s : State} (h : s.Inv) : s.scan.InRange s.cfg.ntscHalfW :=
  ⟨h.vgaX, h.vgaY, h.ntscX, h.ntscY, h.field⟩

/-- Settles O51, by induction on the number of ticks. -/
theorem rastersRunFreely : Obligations.RastersRunFreely := fun s n h => afterTicks_positions n s h.inRange

end Sys2Proof.Machine
end

section
/-! Proofs of the state family: the invariant of R21, R43, R45 and R47. -/

namespace Sys2Proof.Machine

/-! ## The alpha bytes of the framebuffer (R47) -/

/-- Every line of the framebuffer has its alpha bytes 0xFF. -/
def FrameLines.allAlphas (fb : List (Nat × List Byte)) : Prop := ∀ line ∈ fb, FrameLines.alphas line.2

theorem pixelBytes_length (c : Rgb) : (pixelBytes c).length = 4 := rfl

/-- Byte `k` of pixel `x` among the pixels of the columns `l`, four bytes each. -/
theorem getElem?_flatMap_pixelBytes (colour : Nat → Rgb) {k : Nat} (hk : k < 4) :
    ∀ (l : List Nat) (x : Nat), (l.flatMap fun i => pixelBytes (colour i))[4 * x + k]? =
      l[x]?.bind fun i => (pixelBytes (colour i))[k]?
  | [], x => by simp
  | i :: l, 0 => by
    rw [Nat.mul_zero, Nat.zero_add, List.flatMap_cons,
      List.getElem?_append_left (by rw [pixelBytes_length]; exact hk), List.getElem?_cons_zero, Option.bind_some]
  | i :: l, x + 1 => by
    have hshift : 4 * (x + 1) + k - 4 = 4 * x + k := by omega
    rw [List.flatMap_cons, List.getElem?_append_right (by rw [pixelBytes_length]; omega), pixelBytes_length, hshift,
      getElem?_flatMap_pixelBytes colour hk l x, List.getElem?_cons_succ]

/-- Byte `k` of pixel `x` of a rendered line. -/
theorem lineOf_getElem? (colour : Nat → Rgb) {x k : Nat} (hx : x < screenW) (hk : k < 4) :
    (lineOf colour)[4 * x + k]? = (pixelBytes (colour x))[k]? := by
  rw [lineOf, getElem?_flatMap_pixelBytes colour hk, List.getElem?_range hx, Option.bind_some]

theorem lineOf_alphas (colour : Nat → Rgb) : FrameLines.alphas (lineOf colour) := by
  intro x hx
  rw [lineOf_getElem? colour hx (by decide)]
  rfl

/-- What a line render does to the framebuffer: nothing, or one line written whole. -/
theorem renderLine_fb (y : Nat) (s : State) :
    (renderLine y s).fb = s.fb ∨ ∃ colour, (renderLine y s).fb = FrameLines.put y (lineOf colour) s.fb := by
  unfold renderLine renderSkipped renderFull
  split
  · exact .inl rfl
  · split
    · split <;> exact .inl rfl
    · right
      dsimp only
      split
      · exact ⟨_, rfl⟩
      · split <;> exact ⟨_, rfl⟩

theorem renderLine_allAlphas (y : Nat) (s : State) (h : FrameLines.allAlphas s.fb) :
    FrameLines.allAlphas (renderLine y s).fb := by
  obtain hfb | ⟨colour, hfb⟩ := renderLine_fb y s
  · rw [hfb]
    exact h
  · rw [hfb]
    intro line hline
    obtain hnew | hold := FrameLines.mem_put hline
    · have hbytes : line.2 = lineOf colour := by rw [hnew]
      rw [hbytes]
      exact lineOf_alphas colour
    · exact h line hold

theorem renderHalfLine_allAlphas (s : State) (h : FrameLines.allAlphas s.fb) :
    FrameLines.allAlphas (renderHalfLine s).fb := by
  unfold renderHalfLine
  dsimp only
  split
  · exact renderLine_allAlphas _ s h
  · exact h

theorem tickVga_allAlphas (s : State) (h : FrameLines.allAlphas s.fb) : FrameLines.allAlphas (tickVga s).1.fb := by
  unfold tickVga
  split
  · rw [(endVgaLine_beam s).2]
    split
    · exact renderLine_allAlphas _ s h
    · exact h
  · exact h

theorem tickNtsc_allAlphas (s : State) (h : FrameLines.allAlphas s.fb) : FrameLines.allAlphas (tickNtsc s).1.fb := by
  unfold tickNtsc
  split
  · rw [(endHalfLine_beam s).2]
    split
    · exact renderHalfLine_allAlphas s h
    · exact h
  · exact h

/-! ## The invariant, kept by ticks, by a reset and by every other operation (O6, O7) -/

/-- A tick keeps the invariant. -/
theorem tick_inv {s : State} (h : s.Inv) : (tick s).1.Inv := by
  have only := tick_ticks s
  have hrange := tick_inRange h.inRange
  have halpha := tickNtsc_allAlphas _ (tickVga_allAlphas s h.alpha)
  refine ⟨?_, only.wf h.fb, halpha, hrange.vgaX, hrange.vgaY, hrange.ntscX, hrange.ntscY, hrange.field⟩
  rw [only.cfg_eq, only.mem_eq]
  exact h.mem

/-- A state with no byte listed, no line rendered and the counters at 0 meets the invariant, where a half-line has a
pixel. -/
theorem inv_of_cleared {s : State} (hmem : s.mem = []) (hfb : s.fb = []) (hscan : s.scan = Scan.reset)
    (hhalf : 0 < s.cfg.ntscHalfW) : s.Inv where
  mem := by rw [hmem]; rfl
  fb := by rw [hfb]; rfl
  alpha := by rw [hfb]; exact fun _ hline => absurd hline List.not_mem_nil
  vgaX := by rw [hscan]; decide
  vgaY := by rw [hscan]; decide
  ntscX := by rw [hscan]; exact hhalf
  ntscY := by rw [hscan]; decide
  field := by rw [hscan]; rfl

/-- Settles O7: at power-on everything is cleared. -/
theorem resetMeetsTheInvariant : Obligations.ResetMeetsTheInvariant := inv_of_cleared rfl rfl rfl (by decide)

/-- What keeps the raster and the form of VRAM keeps the invariant. -/
theorem KeepsRaster.inv {s t : State} (h : KeepsRaster s t) (hs : s.Inv) : t.Inv := by
  obtain ⟨hcfg, hscan, -, hfb, hwf⟩ := h
  obtain ⟨hmem, hform, halpha, hvgaX, hvgaY, hntscX, hntscY, hfield⟩ := hs
  rw [← hscan] at hvgaX hvgaY hntscX hntscY hfield
  rw [← hfb] at hform halpha
  rw [← hcfg] at hntscX
  exact ⟨hwf hmem, hform, halpha, hvgaX, hvgaY, hntscX, hntscY, hfield⟩

theorem returning_inv {s : State} (h : s.Inv) (r : HostResult) : (s.returning r).Inv :=
  (KeepsRaster.of_mem_eq rfl rfl rfl rfl rfl : KeepsRaster s (s.returning r)).inv h

theorem resetDevice_inv {s : State} (h : s.Inv) : (resetDevice s).Inv :=
  inv_of_cleared rfl rfl rfl (Nat.zero_lt_of_lt h.ntscX)

theorem ticks_inv (n : Nat) {s : State} (h : s.Inv) (newFrame : Bool) : (ticks n s newFrame).1.Inv := by
  rw [ticks_state]
  exact afterTicks_induct (fun _ => tick_inv) n s h

/-- Every operation keeps the invariant: a STEP by its ticks, a reset by clearing what the invariant speaks of, any
other operation by keeping the raster. -/
theorem exec_inv {i : Instr} {s t : State} (hs : s.Inv) (h : exec i s = .next t) : t.Inv := by
  by_cases hstep : i.steps
  · cases i with
    | hostStep n =>
      cases h
      exact returning_inv (ticks_inv n hs false) _
    | _ => exact hstep.elim
  by_cases hreset : i.resets
  · cases i with
    | hostReset =>
      cases h
      exact returning_inv (resetDevice_inv hs) _
    | wrCtrl v =>
      rw [exec_wrCtrl_of_resets hreset] at h
      cases h
      exact returning_inv ((selectBank_keepsRaster v _).inv (resetDevice_inv hs)) _
    | _ => exact hreset.elim
  exact (exec_keepsRaster i s hstep hreset t h).inv hs

theorem present_keepsRaster (op : PendingOp) (rest : List PendingOp) (s : State) :
    KeepsRaster s (present op rest s) := .of_mem_eq rfl rfl rfl rfl rfl

/-- What a step that answers a next state did: nothing, with nothing presented, or the operation presented first. -/
theorem step_next_cases {s t : State} (h : step s = .next t) :
    t = s ∨ ∃ op rest i, exec i (present op rest s) = .next t := by
  unfold step at h
  split at h
  · cases h
    exact .inl rfl
  · split at h
    · exact .inr ⟨_, _, _, h⟩
    · cases h

/-- Settles O6, by what the operation performed keeps. -/
theorem stepKeepsTheInvariant : Obligations.StepKeepsTheInvariant := by
  intro s t hs h
  obtain rfl | ⟨op, rest, i, hexec⟩ := step_next_cases h
  · exact hs
  · exact exec_inv ((present_keepsRaster op rest s).inv hs) hexec

end Sys2Proof.Machine
end

section
/-! Proofs of the state family: the increment table and the values of a reset (spec/10_state.md R23, R33,
spec/70_reset_and_hazards.md R430). -/

namespace Sys2Proof.Machine

/-! ## The increment table (O16) -/

/-- Settles O16, by reading the 16 pairs of the table. -/
theorem incrementTableIsTheSpecs : Obligations.IncrementTableIsTheSpecs := by
  unfold Obligations.IncrementTableIsTheSpecs
  decide

/-! ## The values of a reset (O35) -/

/-- `t` has the spec's reset values in every register, nothing stored or rendered, and outside the device the
parameters and events of `s`. -/
structure FreshlyReset (s t : State) : Prop where
  rest : t = { State.reset with
    cfg := s.cfg, epoch := t.epoch, inputs := t.inputs, queue := t.queue, events := s.events }

theorem reset_freshlyReset : FreshlyReset State.reset State.reset := ⟨rfl⟩

theorem resetDevice_freshlyReset (s : State) : FreshlyReset s ((resetDevice s).returning .nothing) := ⟨rfl⟩

/-- `WR CTRL, #0x80` does what RESET does: bank 0 and port 0 are selected by both (R151, R432). -/
theorem exec_wrCtrl_reset (s : State) : exec (.wrCtrl 0x80) s = exec .hostReset s :=
  exec_wrCtrl_of_resets (v := 0x80) (by decide : 128 ≤ (0x80#8).toNat) s

/-- A byte not listed since the reset has its value of R430, where the spec gives one. -/
theorem FreshlyReset.readByte_of_default {s t : State} (h : FreshlyReset s t) {a : VAddr} {b : Byte}
    (hb : vramDefault s.cfg a.toNat = some b) : t.readByte a = b := by
  have hmem : t.mem = [] := congrArg State.mem h.rest
  have hcfg : t.cfg = s.cfg := (congrArg State.cfg h.rest :)
  simp only [State.readByte, hmem, Memory.lookup, hcfg, hb]

theorem vramDefault_audio (cfg : Config) {a : Nat} (hlow : 0x1F9C0 ≤ a) (hhigh : a < 0x1FA00) :
    vramDefault cfg a = some 0 := by
  unfold vramDefault audioBase palBase
  rw [if_neg (by omega), if_pos hhigh]

theorem vramDefault_sprites (cfg : Config) {a : Nat} (hlow : 0x1FC00 ≤ a) : vramDefault cfg a = some 0 := by
  unfold vramDefault audioBase palBase sprBase
  rw [if_neg (by omega), if_neg (by omega), if_neg (by omega)]

/-- Offset `k` of the palette window, in a palette that has the entry it belongs to: low byte first (R48). -/
theorem vramDefault_palette {cfg : Config} {entries : List (BitVec 12)} {k : Nat} {entry : BitVec 12}
    (hcfg : cfg.defaultPalette = some entries) (hk : k < 512) (hentry : entries[k / 2]? = some entry) :
    vramDefault cfg (palBase + k) =
      some (if k % 2 = 0 then entry.extractLsb' 0 8 else (entry.extractLsb' 8 4).setWidth 8) := by
  have habove : ¬ palBase + k < audioBase := by unfold palBase audioBase; omega
  have hinside : palBase + k < sprBase := by unfold palBase sprBase; omega
  rw [vramDefault, if_neg habove, if_neg (by omega), if_pos hinside, hcfg, Nat.add_sub_cancel_left]
  simp only [hentry]

/-- The composer file after a reset (R33). -/
theorem compReset_getElem (k : Fin 256) :
    compReset[k] = if k = 1 ∨ k = 2 then 128 else if k = 5 then 160 else if k = 7 then 240 else 0 := by
  simp only [compReset, Fin.getElem_fin, Vector.getElem_set, Vector.getElem_replicate, Fin.ext_iff]
  have h1 : ((1 : Fin 256) : Nat) = 1 := rfl
  have h2 : ((2 : Fin 256) : Nat) = 2 := rfl
  have h5 : ((5 : Fin 256) : Nat) = 5 := rfl
  have h7 : ((7 : Fin 256) : Nat) = 7 := rfl
  rw [h1, h2, h5, h7]
  grind

theorem FreshlyReset.readByte_audio {s t : State} (h : FreshlyReset s t) {a : VAddr} (hlow : 0x1F9C0 ≤ a.toNat)
    (hhigh : a.toNat < 0x1FA00) : t.readByte a = 0 := h.readByte_of_default (vramDefault_audio s.cfg hlow hhigh)

theorem FreshlyReset.readByte_sprites {s t : State} (h : FreshlyReset s t) {a : VAddr} (hlow : 0x1FC00 ≤ a.toNat) :
    t.readByte a = 0 := h.readByte_of_default (vramDefault_sprites s.cfg hlow)

theorem FreshlyReset.readByte_palette {s t : State} (h : FreshlyReset s t) {entries : List (BitVec 12)} {k : Nat}
    {entry : BitVec 12} (hcfg : s.cfg.defaultPalette = some entries) (hk : k < 256)
    (hentry : entries[k]? = some entry) :
    (t.readByte (BitVec.ofNat 17 (0x1FA00 + 2 * k))).toNat = entry.toNat % 256 ∧
      (t.readByte (BitVec.ofNat 17 (0x1FA00 + 2 * k + 1))).toNat = entry.toNat / 256 := by
  have addr (n : Nat) (hn : n < 131072) : (BitVec.ofNat 17 n).toNat = n := by
    rw [BitVec.toNat_ofNat]
    exact Nat.mod_eq_of_lt hn
  have heven : 2 * k / 2 = k := by omega
  have hodd : (2 * k + 1) / 2 = k := by omega
  have hlow := vramDefault_palette (k := 2 * k) hcfg (by omega) (by rw [heven]; exact hentry)
  have hhigh := vramDefault_palette (k := 2 * k + 1) hcfg (by omega) (by rw [hodd]; exact hentry)
  rw [if_pos (by omega)] at hlow
  rw [if_neg (by omega)] at hhigh
  have hlt := entry.isLt
  constructor
  · rw [h.readByte_of_default (by rw [addr _ (by omega)]; exact hlow), BitVec.extractLsb'_toNat, Nat.shiftRight_zero]
  · rw [h.readByte_of_default (by rw [addr _ (by omega)]; exact hhigh), BitVec.toNat_setWidth,
      BitVec.extractLsb'_toNat, Nat.shiftRight_eq_div_pow]
    omega

/-- Settles O35: a reset and power-on leave the device freshly reset, and the values follow. -/
theorem resetValues : Obligations.ResetValues := by
  refine fun s => ⟨⟨_, rfl, exec_wrCtrl_reset s⟩, fun t ht => ?_⟩
  have fresh : FreshlyReset s t := by
    obtain h | ⟨rfl, rfl⟩ := ht
    · cases h
      exact resetDevice_freshlyReset s
    · exact reset_freshlyReset
  refine ⟨fun a => fresh.readByte_audio, fun a => fresh.readByte_sprites, fun _ _ _ => fresh.readByte_palette, ?_⟩
  rw [fresh.rest]
  refine ⟨fun p => ?_, rfl, rfl, rfl, rfl, rfl, compReset_getElem, rfl, rfl, rfl, rfl, rfl, rfl, rfl, rfl⟩
  cases p <;> rfl

end Sys2Proof.Machine
end

section
/-! Proofs of the state family: the merge and the palette (spec/46_compositor_palette.md R337 to R343). -/

namespace Sys2Proof.Machine

/-! ## The merge -/

/-- The frontmost colour of a stack given front to back: the first that is not 0, else 0. -/
def frontmost (stack : List Byte) : Byte := (stack.find? fun col => col != 0).getD 0

theorem frontmost_nil : frontmost [] = 0 := rfl

theorem frontmost_cons (col : Byte) (stack : List Byte) :
    frontmost (col :: stack) = if col ≠ 0 then col else frontmost stack := by
  by_cases h : col = 0
  · rw [if_neg (not_not_intro h)]
    rw [frontmost, List.find?_cons_of_neg (by simp [h]), frontmost]
  · rw [if_pos h]
    rw [frontmost, List.find?_cons_of_pos (by simpa using h), Option.getD_some]

/-- A colour in front of nothing. -/
theorem colour_or_none (col : Byte) : (if col ≠ 0 then col else 0) = col := by
  split
  · rfl
  · rename_i h
    exact (not_not.mp h).symm

/-- The merge at each of the four z-depths, against the stack of R337. -/
theorem merge_eq_frontmost (z : BitVec 2) (spr c0 c1 : Byte) :
    merge z spr c0 c1 =
      frontmost [if z = 3 then spr else 0, c1, if z = 2 then spr else 0, c0, if z = 1 then spr else 0] := by
  have absent (col : Byte) : (if (0 : Byte) ≠ 0 then 0 else col) = col := if_neg (fun h => h rfl)
  have hz : z = 3 ∨ z = 2 ∨ z = 1 ∨ z = 0 := by revert z; decide
  obtain rfl | rfl | rfl | rfl := hz
  · show _ = frontmost [spr, c1, 0, c0, 0]
    simp only [frontmost_cons, frontmost_nil, colour_or_none, absent]
    rfl
  · show _ = frontmost [0, c1, spr, c0, 0]
    simp only [frontmost_cons, frontmost_nil, colour_or_none, absent]
    rfl
  · show _ = frontmost [0, c1, 0, c0, spr]
    simp only [frontmost_cons, frontmost_nil, colour_or_none, absent]
    rfl
  · show _ = frontmost [0, c1, 0, c0, 0]
    simp only [frontmost_cons, frontmost_nil, colour_or_none, absent]
    rfl

/-! ## Colours by arithmetic -/

/-- A doubled nibble. -/
theorem nibble_doubled (n : BitVec 4) : (n ++ n : BitVec 8) = BitVec.ofNat 8 (n.toNat * 17) := by
  revert n
  decide

theorem nibble_doubled_halves (n : BitVec 4) :
    (n ++ n : BitVec 8).toNat / 16 = (n ++ n : BitVec 8).toNat % 16 := by
  revert n
  decide

/-- The channels of a 12-bit colour, from the top nibble down (R48). -/
theorem channels_of_toNat {rgb : BitVec 12} {r g b : Nat} (hg : g < 16) (hb : b < 16)
    (h : rgb.toNat = r * 256 + g * 16 + b) :
    (rgb.extractLsb' 8 4).toNat = r ∧ (rgb.extractLsb' 4 4).toNat = g ∧ (rgb.extractLsb' 0 4).toNat = b := by
  have hlt := rgb.isLt
  simp only [BitVec.extractLsb'_toNat, Nat.shiftRight_eq_div_pow, h]
  omega

/-- The expansion of a colour whose channels are `r`, `g` and `b`. -/
theorem expandRgb_of_channels {rgb : BitVec 12} {r g b : Nat} (hg : g < 16) (hb : b < 16)
    (h : rgb.toNat = r * 256 + g * 16 + b) :
    expandRgb rgb = ⟨BitVec.ofNat 8 (r * 17), BitVec.ofNat 8 (g * 17), BitVec.ofNat 8 (b * 17)⟩ := by
  obtain ⟨red, green, blue⟩ := channels_of_toNat hg hb h
  simp only [expandRgb, nibble_doubled, red, green, blue]

theorem toNat_append_eq {m n : Nat} (x : BitVec m) (y : BitVec n) :
    (x ++ y).toNat = x.toNat * 2 ^ n + y.toNat := by
  rw [BitVec.toNat_append, ← Nat.shiftLeft_add_eq_or_of_lt y.isLt, Nat.shiftLeft_eq]

/-- The palette entry is the low 12 bits of its two bytes, low byte first (R48). -/
theorem paletteEntry_toNat (s : State) (i : Byte) :
    (paletteEntry s i).toNat =
      ((s.readByte (BitVec.ofNat 17 (0x1FA00 + 2 * i.toNat + 1))).toNat * 256 +
        (s.readByte (BitVec.ofNat 17 (0x1FA00 + 2 * i.toNat))).toNat) % 4096 := by
  unfold paletteEntry State.vram palBase
  rw [toNat_append_eq, BitVec.extractLsb'_toNat, Nat.shiftRight_zero]
  generalize s.readByte (BitVec.ofNat 17 (0x1FA00 + 2 * i.toNat + 1)) = high
  have hlow := (s.readByte (BitVec.ofNat 17 (0x1FA00 + 2 * i.toNat))).isLt
  omega

/-- The default greyed colour (R343): the weighted mean on every channel. -/
theorem greyOf_weighted_toNat {rgb : BitVec 12} {r g b : Nat} (hr : r < 16) (hg : g < 16) (hb : b < 16)
    (h : rgb.toNat = r * 256 + g * 16 + b) :
    (greyOf .weighted rgb).toNat =
      (r + b + 2 * g) / 4 * 256 + (r + b + 2 * g) / 4 * 16 + (r + b + 2 * g) / 4 := by
  obtain ⟨red, green, blue⟩ := channels_of_toNat hg hb h
  have mean : (BitVec.ofNat 4 (((rgb.extractLsb' 8 4).toNat + (rgb.extractLsb' 0 4).toNat +
      2 * (rgb.extractLsb' 4 4).toNat) / 4)).toNat = (r + b + 2 * g) / 4 := by
    rw [BitVec.toNat_ofNat, red, green, blue]
    omega
  simp only [greyOf, toNat_append_eq, mean]
  omega

/-- The palette is greyed with CHROMA_DIS and the NTSC raster both selected, bits 2 and 1 of slot 0 (R340). -/
theorem greyed_eq_true {s : State} (hchroma : s.comp[0].toNat / 4 % 2 = 1) (hntsc : s.comp[0].toNat / 2 % 2 = 1) :
    s.greyed = true := by
  rw [State.greyed, getLsbD_eq_decide, getLsbD_eq_decide, Bool.and_eq_true, decide_eq_true_eq, decide_eq_true_eq]
  exact ⟨hchroma, hntsc⟩

theorem greyed_eq_false {s : State} (h : s.comp[0].toNat / 4 % 2 = 0 ∨ s.comp[0].toNat / 2 % 2 = 0) :
    s.greyed = false := by
  rw [State.greyed, getLsbD_eq_decide, getLsbD_eq_decide, Bool.and_eq_false_iff, decide_eq_false_iff_not,
    decide_eq_false_iff_not]
  omega

/-! ## The obligation (O57) -/

theorem paletteRgb_of_greyed {s : State} (h : s.greyed = true) (i : Byte) :
    paletteRgb s i = expandRgb (greyOf s.cfg.grey (paletteEntry s i)) := by
  rw [paletteRgb, h, if_pos rfl]

theorem paletteRgb_of_not_greyed {s : State} (h : s.greyed = false) (i : Byte) :
    paletteRgb s i = expandRgb (paletteEntry s i) := by
  rw [paletteRgb, h, if_neg Bool.false_ne_true]

/-- Settles O57: the merge at each z-depth, and the entry's channels through the grey function and the expansion. -/
theorem mergeAndPalette : Obligations.MergeAndPalette := by
  refine ⟨?_, fun s i r g b hr hg hb hbytes => ?_, fun s i => ?_⟩
  · rintro z spr c0 c1 _ rfl
    exact merge_eq_frontmost z spr c0 c1
  · have hentry : (paletteEntry s i).toNat = r * 256 + g * 16 + b := (paletteEntry_toNat s i).trans hbytes.symm
    refine ⟨fun hcolour => ?_, fun hchroma hntsc =>
      ⟨fun hgrey m hm => ?_, fun entries r' g' b' hgrey hr' hg' hb' hfound => ?_⟩⟩
    · rw [paletteRgb_of_not_greyed (greyed_eq_false hcolour), expandRgb_of_channels hg hb hentry]
    · have hmean : (r + b + 2 * g) / 4 < 16 := by omega
      rw [paletteRgb_of_greyed (greyed_eq_true hchroma hntsc), hgrey,
        expandRgb_of_channels hmean hmean (greyOf_weighted_toNat hr hg hb hentry), ← hm, BitVec.ofNat_toNat,
        BitVec.setWidth_eq]
    · have hgreyed : (greyOf s.cfg.grey (paletteEntry s i)).toNat = r' * 256 + g' * 16 + b' := by
        rw [hgrey, greyOf, hentry, List.getD_eq_getElem?_getD, hfound, Option.getD_some, BitVec.toNat_ofNat]
        omega
      rw [paletteRgb_of_greyed (greyed_eq_true hchroma hntsc), expandRgb_of_channels hg' hb' hgreyed]
  · exact ⟨nibble_doubled_halves _, nibble_doubled_halves _, nibble_doubled_halves _⟩

end Sys2Proof.Machine
end

section
/-! Proofs of the state family: the sprite line's loop (spec/45_sprites.md R310 to R317). -/

namespace Sys2Proof.Machine

/-! ## The start of a line and its table -/

/-- Record `n` of the sprite window (R49, R311). -/
theorem spriteTable_getElem? (s : State) {n : Nat} (hn : n < 128) :
    (spriteTable s)[n]? = some (spriteOf fun k => s.readByte (BitVec.ofNat 17 (0x1FC00 + 8 * n + k))) := by
  rw [spriteTable, List.getElem?_map, List.getElem?_range hn]
  rfl

theorem spriteTable_length (s : State) : (spriteTable s).length = 128 := by
  rw [spriteTable, List.length_map, List.length_range]

/-- The table is what its 128 records say. -/
theorem eq_spriteTable {s : State} {table : List Sprite} (hlength : table.length = 128)
    (hrecords : ∀ n < 128, table[n]? =
      some (spriteOf fun k => s.readByte (BitVec.ofNat 17 (0x1FC00 + 8 * n + k)))) : table = spriteTable s := by
  apply List.ext_getElem?
  intro n
  by_cases hn : n < 128
  · rw [hrecords n hn, spriteTable_getElem? s hn]
  · rw [List.getElem?_eq_none (by omega), List.getElem?_eq_none (by rw [spriteTable_length]; omega)]

/-- With SPR_EN, bit 6 of slot 0, clear the renderer does not run (R310). -/
theorem spriteLine_disabled {s : State} (h : s.comp[0].toNat / 64 % 2 = 0) (sy : Nat) :
    spriteLine s sy = spriteStart s.cfg.spriteLineBudget s.collAcc := by
  have hbit : s.comp[0].getLsbD 6 = false := by
    rw [getLsbD_eq_decide, decide_eq_false_iff_not]
    omega
  rw [spriteLine, hbit]
  rfl

theorem spriteLine_enabled {s : State} (h : s.comp[0].toNat / 64 % 2 = 1) (sy : Nat) :
    spriteLine s sy =
      spriteLoop s.vram (lineView s sy) (spriteTable s) (spriteStart s.cfg.spriteLineBudget s.collAcc) := by
  have hbit : s.comp[0].getLsbD 6 = true := by
    rw [getLsbD_eq_decide, decide_eq_true_eq]
    exact h
  rw [spriteLine, hbit]
  rfl

/-! ## One record of the loop -/

/-- The unit of an examined record, as the statement writes it. -/
theorem charge_one (w : SpriteWork) :
    charge 1 w = { w with budget := w.budget - 1, stopped := decide (w.budget ≤ 1) } := by
  have hends : (w.budget - (1 : Nat) ≤ 0) ↔ w.budget ≤ 1 := by omega
  simp only [charge, hends]
  rfl

section
variable (vram : Nat → Byte) (view : LineView) {sp : Sprite} (rest : List Sprite) {w : SpriteWork}

/-- The examination spends the budget: the line ends (R313). -/
theorem spriteLoop_exhausted (h : w.budget ≤ 1) : spriteLoop vram view (sp :: rest) w = charge 1 w := by
  have hstopped : (charge 1 w).stopped = true := by
    rw [charge_one]
    exact decide_eq_true h
  rw [spriteLoop, hstopped]
  rfl

/-- With budget left after the examination the record is skipped or drawn. -/
theorem spriteLoop_examined (h : 1 < w.budget) :
    spriteLoop vram view (sp :: rest) w =
      if spriteSkipped view sp then spriteLoop vram view rest (charge 1 w)
      else
        let drawn := renderSpriteRow vram view sp (charge 1 w)
        if drawn.stopped then drawn else spriteLoop vram view rest drawn := by
  have hstopped : (charge 1 w).stopped = false := by
    rw [charge_one]
    exact decide_eq_false (by omega)
  rw [spriteLoop, hstopped]
  rfl

theorem spriteSkipped_iff :
    spriteSkipped view sp = true ↔ sp.z = 0 ∨ (view.sy : Int) < sp.y ∨ sp.y + sp.h ≤ (view.sy : Int) := by
  simp only [spriteSkipped, Bool.or_eq_true, decide_eq_true_eq, or_assoc]

theorem spriteLoop_skipped (h : 1 < w.budget)
    (hskip : sp.z = 0 ∨ (view.sy : Int) < sp.y ∨ sp.y + sp.h ≤ (view.sy : Int)) :
    spriteLoop vram view (sp :: rest) w = spriteLoop vram view rest (charge 1 w) := by
  rw [spriteLoop_examined vram view rest h, if_pos ((spriteSkipped_iff view).mpr hskip)]

theorem spriteLoop_drawn (h : 1 < w.budget)
    (hdraw : ¬ (sp.z = 0 ∨ (view.sy : Int) < sp.y ∨ sp.y + sp.h ≤ (view.sy : Int))) :
    spriteLoop vram view (sp :: rest) w =
      if (renderSpriteRow vram view sp (charge 1 w)).stopped then renderSpriteRow vram view sp (charge 1 w)
      else spriteLoop vram view rest (renderSpriteRow vram view sp (charge 1 w)) := by
  rw [spriteLoop_examined vram view rest h, if_neg (fun hskip => hdraw ((spriteSkipped_iff view).mp hskip))]

end

/-- A hidden record's other fields do not matter to the loop (R312, R317). -/
theorem spriteLoop_hidden (vram : Nat → Byte) (view : LineView) (after : List Sprite) {hidden other : Sprite}
    (hhidden : hidden.z = 0) (hother : other.z = 0) (w : SpriteWork) :
    spriteLoop vram view (hidden :: after) w = spriteLoop vram view (other :: after) w := by
  by_cases h : w.budget ≤ 1
  · rw [spriteLoop_exhausted vram view after h, spriteLoop_exhausted vram view after h]
  · rw [spriteLoop_skipped vram view after (by omega) (.inl hhidden),
      spriteLoop_skipped vram view after (by omega) (.inl hother)]

/-- Two tails on which the loop always agrees may follow the same records. -/
theorem spriteLoop_append_congr (vram : Nat → Byte) (view : LineView) {tail tail' : List Sprite}
    (htail : ∀ w, spriteLoop vram view tail w = spriteLoop vram view tail' w) :
    ∀ (before : List Sprite) (w : SpriteWork),
      spriteLoop vram view (before ++ tail) w = spriteLoop vram view (before ++ tail') w
  | [], w => htail w
  | sp :: before, w => by
    simp only [List.cons_append, spriteLoop, spriteLoop_append_congr vram view htail before]

/-! ## The obligation (O58) -/

/-- Settles O58: the line's start and table, the loop's law at one record, and the replacement of a hidden record. -/
theorem hiddenSpritesDoNotShow : Obligations.HiddenSpritesDoNotShow := by
  refine ⟨?_, ?_, fun vram view before after _ _ w hhidden hother =>
    spriteLoop_append_congr vram view (spriteLoop_hidden vram view after hhidden hother) before w⟩
  · rintro s sy _ table rfl hlength hrecords
    rw [eq_spriteTable hlength hrecords]
    exact ⟨fun h => spriteLine_disabled h sy, fun h => spriteLine_enabled h sy⟩
  · rintro vram view sp rest w _ rfl
    rw [← charge_one]
    refine ⟨by rw [spriteLoop], fun h => spriteLoop_exhausted vram view rest h,
      fun h hskip => spriteLoop_skipped vram view rest h hskip, ?_⟩
    rintro h hz htop hbottom _ rfl
    exact spriteLoop_drawn vram view rest h (not_or.mpr ⟨hz, by omega⟩)

end Sys2Proof.Machine
end

section
/-! Proofs of the memory family (spec/20_memory.md): what leaves VRAM alone (O13), the data write with the FX engine
off (O18), and the read back of a byte written (O22). -/

namespace Sys2Proof.Machine

/-! ## Operations that leave VRAM alone (O13) -/

@[simp] theorem reprime_readByte (p : PortId) (s : State) (a : VAddr) : (reprime p s).readByte a = s.readByte a :=
  (reprime_advances p s).readByte_eq a

theorem loadAddrL_readByte (v : Byte) (s : State) (a : VAddr) : (loadAddrL v s).readByte a = s.readByte a := by
  unfold loadAddrL
  dsimp only
  split
  · rw [State.setFx_readByte, State.setPort_readByte]
  · rw [State.setPort_readByte]

theorem loadAddrM_readByte (v : Byte) (s : State) (a : VAddr) : (loadAddrM v s).readByte a = s.readByte a :=
  State.setPort_readByte s _ _ a

theorem loadAddrH_readByte (v : Byte) (s : State) (a : VAddr) : (loadAddrH v s).readByte a = s.readByte a :=
  State.setPort_readByte s _ _ a

/-- A data read advances the ports and fills the FX cache; neither stores (R240). -/
theorem dataRead_readByte (p : PortId) (s : State) (a : VAddr) : (dataRead p s).readByte a = s.readByte a := by
  have primed := (primedRead_spec p s).1.readByte_eq a
  unfold dataRead
  split
  · rw [fillCache_eq, State.setFx_readByte, primed]
  · exact primed

theorem TicksOnly.readByte_eq {s t : State} (h : TicksOnly s t) (a : VAddr) : t.readByte a = s.readByte a := by
  rw [h.rest]
  rfl

/-- Every operation but a data write and a reset leaves every byte of VRAM. The named cases move or refill a port or
tick the raster; each remaining operation replaces other device registers alone. -/
theorem exec_readByte {i : Instr} {s t : State} (h : exec i s = .next t) (hwrite : ∀ p v, i ≠ PortId.writeOp v p)
    (hreset : ¬ i.resets) (a : VAddr) : t.readByte a = s.readByte a := by
  cases i with
  | wrData0 v => exact absurd rfl (hwrite .port0 v)
  | wrData1 v => exact absurd rfl (hwrite .port1 v)
  | hostReset => exact absurd trivial hreset
  | wrCtrl v =>
    rw [exec_wrCtrl_of_not_resets hreset] at h
    cases h
    rfl
  | hostStep n =>
    cases h
    exact (ticks_ticks n s false).readByte_eq a
  | wrAddrL v =>
    cases h
    exact (reprime_readByte _ _ a).trans (loadAddrL_readByte v s a)
  | wrAddrM v =>
    cases h
    exact (reprime_readByte _ _ a).trans (loadAddrM_readByte v s a)
  | wrAddrH v =>
    cases h
    exact (reprime_readByte _ _ a).trans (loadAddrH_readByte v s a)
  | rdData0 =>
    cases h
    exact dataRead_readByte .port0 s a
  | rdData1 =>
    cases h
    exact dataRead_readByte .port1 s a
  | _ =>
    cases h
    rfl

/-- Settles O13, by what every other operation leaves of VRAM. -/
theorem onlyDataWritesAndResetTouchVram : Obligations.OnlyDataWritesAndResetTouchVram := by
  intro i s t a h hchanged
  by_contra hother
  obtain ⟨hwrite0, hwrite1, hreset⟩ : (¬ ∃ v, i = .wrData0 v) ∧ (¬ ∃ v, i = .wrData1 v) ∧ ¬ i.resets := by
    simpa only [not_or] using hother
  refine hchanged (exec_readByte h (fun p v hi => ?_) hreset a)
  cases p with
  | port0 => exact hwrite0 ⟨v, hi⟩
  | port1 => exact hwrite1 ⟨v, hi⟩

/-! ## The access with FX_CTRL = 0 -/

section
variable {s : State} (hoff : s.comp[8] = 0)
include hoff

theorem a1Mode_of_fxOff : s.a1Mode = 0 := by
  rw [State.a1Mode, hoff]
  rfl

theorem mode4_of_fxOff : s.mode4 = false := by
  rw [State.mode4, hoff]
  rfl

theorem hop16_of_fxOff : s.hop16 = false := by
  rw [State.hop16, hoff]
  rfl

theorem cacheCyc_of_fxOff : s.cacheCyc = false := by
  rw [State.cacheCyc, hoff]
  rfl

theorem cacheWr_of_fxOff : s.cacheWr = false := by
  rw [State.cacheWr, hoff]
  rfl

theorem transp_of_fxOff : s.transp = false := by
  rw [State.transp, hoff]
  rfl

theorem ownAdvance_of_fxOff (p : PortId) : ownAdvance p s = movePort p (portStep p s) s := by
  have nibble : nibbleStep p s = s := if_neg (by simp [mode4_of_fxOff hoff])
  have hop : hopStep p (portStep p s) (s.port p).addr s = portStep p s := if_neg (by simp [hop16_of_fxOff hoff])
  rw [ownAdvance, nibble, hop]

/-- With the FX engine off a port moves by its step, whatever the access (R231, R234). -/
theorem portAdvance_of_fxOff (p : PortId) (isWrite : Bool) :
    portAdvance p isWrite s = movePort p (portStep p s) s := by
  rw [portAdvance, couple_direct p isWrite _ ((ownAdvance_a1Mode p s).trans (a1Mode_of_fxOff hoff)),
    ownAdvance_of_fxOff hoff]

/-- With the FX engine off a store is of the byte itself, whole and at the address alone (R241, R242). -/
theorem dataStore_of_fxOff (a : VAddr) (nib : Bool) (v : Byte) : dataStore a nib v s = memWrite a v s := by
  simp [dataStore, fxStore, cacheWr_of_fxOff hoff, cacheCyc_of_fxOff hoff, mode4_of_fxOff hoff, transp_of_fxOff hoff]

theorem dataWrite_of_fxOff (p : PortId) (v : Byte) :
    dataWrite p v s = reprime p (memWrite (s.port p).addr v (movePort p (portStep p s) s)) := by
  have moved : (movePort p (portStep p s) s).comp[8] = 0 := by
    rw [(movePort_advances p _ s).comp_eq]
    exact hoff
  rw [dataWrite, portAdvance_of_fxOff hoff, dataStore_of_fxOff moved]

end

/-! ## The plain data write (O18) -/

theorem exec_writeOp (p : PortId) (v : Byte) (s : State) :
    exec (p.writeOp v) s = .next ((dataWrite p v s).returning .nothing) := by cases p <;> rfl

/-- One stored byte in the words of the spec, the audio shadow window by its last address (R86). -/
theorem memWrite_eq_storeEvents (a : VAddr) (v : Byte) (s : State) :
    memWrite a v s =
      { s with mem := Memory.write s.cfg s.mem a.toNat v, events := s.events ++ storeEvents a v } := by
  have window : (audioBase ≤ a.toNat ∧ a.toNat < palBase) = (0x1F9C0 ≤ a.toNat ∧ a.toNat ≤ 0x1F9FF) :=
    propext (and_congr_right fun _ => Nat.lt_succ_iff)
  simp only [memWrite_eq, storeEvents, window]
  rfl

/-- With the FX engine off, `t` is the state after a write of `v` through port `p`: the byte stored at the address
before the advance, that store's events, and the port moved by its step and refilled. -/
structure PlainWritten (p : PortId) (v : Byte) (s t : State) : Prop where
  stored : ∀ b, t.readByte b = if b = (s.port p).addr then v else s.readByte b
  rest : t = { s with mem := t.mem, events := s.events ++ storeEvents (s.port p).addr v, result := .nothing }.setPort p
    { s.port p with
      addr := addrPlus (s.port p).addr (portStep p s)
      rdData := t.readByte (addrPlus (s.port p).addr (portStep p s)) }

theorem exec_write_of_fxOff {s : State} (hoff : s.comp[8] = 0) (p : PortId) (v : Byte) :
    ∃ t, exec (p.writeOp v) s = .next t ∧ PlainWritten p v s t := by
  refine ⟨_, exec_writeOp p v s, ?_⟩
  rw [dataWrite_of_fxOff hoff]
  constructor
  · intro b
    rw [State.returning_readByte, reprime_readByte, memWrite_readByte, (movePort_advances p _ s).readByte_eq]
  · rw [memWrite_eq_storeEvents]
    cases p <;> rfl

theorem PlainWritten.port_eq {p : PortId} {v : Byte} {s t : State} (h : PlainWritten p v s t) :
    t.port p = { s.port p with
      addr := addrPlus (s.port p).addr (portStep p s)
      rdData := t.readByte (addrPlus (s.port p).addr (portStep p s)) } := by
  conv_lhs => rw [h.rest, State.setPort_port_same]

/-- Settles O18, by the plain write of either port. -/
theorem plainDataWrites : Obligations.PlainDataWrites := by
  intro s v hoff
  constructor
  · rintro _ rfl
    obtain ⟨t, hexec, hstored, hrest⟩ := exec_write_of_fxOff hoff .port0 v
    exact ⟨t, hexec, hstored, hrest⟩
  · rintro _ rfl
    obtain ⟨t, hexec, hstored, hrest⟩ := exec_write_of_fxOff hoff .port1 v
    exact ⟨t, hexec, hstored, hrest⟩

/-! ## The byte read back (O22) -/

/-- A data read answers the port's read cache as it stood before (R240), in every addressing mode. -/
theorem exec_readOp (p : PortId) (s : State) :
    exec p.readOp s = .next ((dataRead p s).returning (.byte (s.port p).rdData)) := by cases p <;> rfl

/-- With step 0 the refill after the store is from the address stored to. -/
theorem PlainWritten.rdData_of_still {p : PortId} {v : Byte} {s t : State} (h : PlainWritten p v s t)
    (hstill : (s.port p).inc = 0) : (t.port p).rdData = v := by
  have still : addrPlus (s.port p).addr (portStep p s) = (s.port p).addr := by
    have step : portStep p s = 0 := by
      rw [portStep, hstill]
      rfl
    rw [step]
    exact BitVec.add_zero _
  rw [h.port_eq, still]
  exact (h.stored _).trans (if_pos rfl)

/-- Settles O22: the write leaves the byte in the port's read cache, and the read answers that cache. -/
theorem dataPortRoundTrip : Obligations.DataPortRoundTrip := by
  intro p s v hoff hstill _
  obtain ⟨t, hexec, written⟩ := exec_write_of_fxOff hoff p v
  refine ⟨t, _, hexec, exec_readOp p t, ?_⟩
  rw [State.returning_result, written.rdData_of_still hstill]

end Sys2Proof.Machine
end

section
/-! Proofs of the encoding family (spec/30_encoding.md): the fields of a command word and the decoder on them (R110),
decode and encode (R110 to R114), and the words that spell no operation (R116). -/

namespace Sys2Proof

/-! ## The fields of a command word (R110) -/

theorem kindField_toNat (w : BitVec 16) : (w.extractLsb' 14 2).toNat = w.toNat / 16384 := by
  rw [BitVec.extractLsb'_toNat, Nat.shiftRight_eq_div_pow]
  omega

theorem regField_toNat (w : BitVec 16) : (w.extractLsb' 8 5).toNat = w.toNat / 256 % 32 := by
  rw [BitVec.extractLsb'_toNat, Nat.shiftRight_eq_div_pow]

theorem dataField_toNat (w : BitVec 16) : (w.extractLsb' 0 8).toNat = w.toNat % 256 := by
  rw [BitVec.extractLsb'_toNat, Nat.shiftRight_zero]

theorem reservedBit_eq (w : BitVec 16) : w.getLsbD 13 = decide (w.toNat / 8192 % 2 = 1) :=
  Nat.testBit_eq_decide_div_mod_eq

section
variable (kind : BitVec 2) (reg : BitVec 5) (data : Byte)

theorem commandWord_toNat :
    (commandWord kind reg data).toNat = kind.toNat * 16384 + reg.toNat * 256 + data.toNat := by
  simp only [commandWord, Machine.toNat_append_eq, BitVec.toNat_ofNat]
  omega

theorem commandWord_reservedBit : (commandWord kind reg data).getLsbD 13 = false := by
  rw [reservedBit_eq, decide_eq_false_iff_not, commandWord_toNat]
  omega

theorem commandWord_kind : (commandWord kind reg data).extractLsb' 14 2 = kind := by
  apply BitVec.eq_of_toNat_eq
  rw [kindField_toNat, commandWord_toNat]
  omega

theorem commandWord_reg : (commandWord kind reg data).extractLsb' 8 5 = reg := by
  apply BitVec.eq_of_toNat_eq
  rw [regField_toNat, commandWord_toNat]
  omega

theorem commandWord_data : (commandWord kind reg data).extractLsb' 0 8 = data := by
  apply BitVec.eq_of_toNat_eq
  rw [dataField_toNat, commandWord_toNat]
  omega

end

/-- A word with bit 13 clear holds nothing besides its three fields. -/
theorem eq_commandWord {w : BitVec 16} (h : w.getLsbD 13 = false) :
    w = commandWord (w.extractLsb' 14 2) (w.extractLsb' 8 5) (w.extractLsb' 0 8) := by
  rw [reservedBit_eq, decide_eq_false_iff_not] at h
  apply BitVec.eq_of_toNat_eq
  rw [commandWord_toNat, kindField_toNat, regField_toNat, dataField_toNat]
  omega

/-! ## The decoder on the fields -/

/-- The decoder on a word given by its fields (`decode_eq`). -/
def decodeFields (dcsel : BitVec 6) (kind : BitVec 2) (reg : BitVec 5) (data : Byte) (operand : Nat) :
    Except DecodeError Instr :=
  match kind.toNat with
  | 1 => .ok (decodeWrite dcsel reg.toNat data)
  | 0 => if data = 0 then .ok (decodeRead dcsel reg.toNat) else .error .dataNotZero
  | 2 => if data = 0 then .ok (decodeDebugRead reg.toNat) else .error .dataNotZero
  | _ => if data = 0 then decodeHostCall reg.toNat operand else .error .dataNotZero

theorem decode_eq (dcsel : BitVec 6) (c : HostCommand) :
    decode dcsel c =
      if c.word.getLsbD 13 then .error .reservedBitSet
      else decodeFields dcsel (c.word.extractLsb' 14 2) (c.word.extractLsb' 8 5) (c.word.extractLsb' 0 8) c.operand :=
  rfl

section
variable (dcsel : BitVec 6) (reg : BitVec 5) (data : Byte) (operand : Nat)

theorem decodeFields_read :
    decodeFields dcsel 0 reg data operand =
      if data = 0 then .ok (decodeRead dcsel reg.toNat) else .error .dataNotZero := rfl

theorem decodeFields_write : decodeFields dcsel 1 reg data operand = .ok (decodeWrite dcsel reg.toNat data) := rfl

theorem decodeFields_debugRead :
    decodeFields dcsel 2 reg data operand =
      if data = 0 then .ok (decodeDebugRead reg.toNat) else .error .dataNotZero := rfl

theorem decodeFields_hostCall :
    decodeFields dcsel 3 reg data operand =
      if data = 0 then decodeHostCall reg.toNat operand else .error .dataNotZero := rfl

theorem decode_commandWord (kind : BitVec 2) :
    decode dcsel ⟨commandWord kind reg data, operand⟩ = decodeFields dcsel kind reg data operand := by
  rw [decode_eq, commandWord_reservedBit, commandWord_kind, commandWord_reg, commandWord_data]
  rfl

end

/-- What decodes is a word made of its fields. -/
theorem decodeFields_of_decode {dcsel : BitVec 6} {c : HostCommand} {i : Instr} (h : decode dcsel c = .ok i) :
    ∃ kind reg data, c.word = commandWord kind reg data ∧ decodeFields dcsel kind reg data c.operand = .ok i := by
  rw [decode_eq] at h
  split at h
  · cases h
  · next hclear => exact ⟨_, _, _, eq_commandWord (Bool.eq_false_iff.mpr hclear), h⟩

/-! ## The composer banks (R114) -/

theorem exists_add_of_undefinedBank {bank : BitVec 6} (h : undefinedBank bank = true) : ∃ n, bank.toNat = n + 7 :=
  Nat.exists_eq_add_of_le' (of_decide_eq_true h)

/-- A bank is one of 0 to 6 or an undefined one. -/
theorem bank_cases {motive : BitVec 6 → Prop} (defined : ∀ k < 7, motive (BitVec.ofNat 6 k))
    (undefined : ∀ bank, undefinedBank bank = true → motive bank) (bank : BitVec 6) : motive bank := by
  by_cases h : undefinedBank bank = true
  · exact undefined bank h
  · have hlow : bank.toNat < 7 := by simpa [undefinedBank] using h
    simpa using defined bank.toNat hlow

theorem decodeReadSlots_of_undefined {bank : BitVec 6} (h : undefinedBank bank = true) :
    decodeReadSlot0 bank = .rdUndef0 bank ∧ decodeReadSlot1 bank = .rdUndef1 bank ∧
      decodeReadSlot2 bank = .rdUndef2 bank ∧ decodeReadSlot3 bank = .rdUndef3 bank := by
  obtain ⟨n, hn⟩ := exists_add_of_undefinedBank h
  simp [decodeReadSlot0, decodeReadSlot1, decodeReadSlot2, decodeReadSlot3, hn]

theorem decodeWriteSlots_of_undefined {bank : BitVec 6} (h : undefinedBank bank = true) (v : Byte) :
    decodeWriteSlot0 bank v = .wrUndef0 bank v ∧ decodeWriteSlot1 bank v = .wrUndef1 bank v ∧
      decodeWriteSlot2 bank v = .wrUndef2 bank v ∧ decodeWriteSlot3 bank v = .wrUndef3 bank v := by
  obtain ⟨n, hn⟩ := exists_add_of_undefinedBank h
  simp [decodeWriteSlot0, decodeWriteSlot1, decodeWriteSlot2, decodeWriteSlot3, hn]

/-! ## Decoding an encoding (O1, O4) -/

theorem decode_readCommand (dcsel : BitVec 6) (reg : BitVec 5) :
    decode dcsel (readCommand reg) = .ok (decodeRead dcsel reg.toNat) := decode_commandWord ..

theorem decode_writeCommand (dcsel : BitVec 6) (reg : BitVec 5) (v : Byte) :
    decode dcsel (writeCommand reg v) = .ok (decodeWrite dcsel reg.toNat v) := decode_commandWord ..

/-- In its own bank, or in any bank where DCSEL does not choose its meaning, an operation's command decodes to it.
An undefined slot's operation has its bank as an operand; for every other operation the bank, where it matters, and
the fields but the written byte are literals, on which the decoder computes. -/
theorem decode_encode {i : Instr} (hwf : i.wellFormed = true) (dcsel : BitVec 6) :
    decode (i.bank?.getD dcsel) (encode i) = .ok i := by
  cases i
  case rdUndef0 bank | rdUndef1 bank | rdUndef2 bank | rdUndef3 bank =>
    have slots := decodeReadSlots_of_undefined hwf
    simp [Instr.bank?, encode, decode_readCommand, decodeRead, slots]
  case wrUndef0 bank v | wrUndef1 bank v | wrUndef2 bank v | wrUndef3 bank v =>
    have slots := decodeWriteSlots_of_undefined hwf v
    simp [Instr.bank?, encode, decode_writeCommand, decodeWrite, slots]
  all_goals exact decode_commandWord ..

theorem Instr.bank?_getD_of_spelledUnder {i : Instr} {dcsel : BitVec 6} (h : i.spelledUnder dcsel = true) :
    i.bank?.getD dcsel = dcsel := by
  unfold Instr.spelledUnder at h
  split at h
  · next bank hbank => simpa [hbank] using h
  · next hbank => rw [hbank, Option.getD_none]

/-- Settles O1, by decoding in the operation's own bank. -/
theorem decodeOfEncodeIsTheOperation : Obligations.DecodeOfEncodeIsTheOperation := by
  intro i dcsel hwf hspelled
  have decoded := decode_encode hwf dcsel
  rwa [Instr.bank?_getD_of_spelledUnder hspelled] at decoded

/-- Settles O4: each word is the encoding of its operation. -/
theorem wordsOfTheSpecDecode : Obligations.WordsOfTheSpecDecode := by
  have decodes := decodeOfEncodeIsTheOperation
  exact ⟨decodes (.wrAddrL 0x07) 0 rfl rfl, decodes .rdData0 5 rfl rfl, decodes (.wrDcVideo 0x71) 0 rfl rfl,
    decodes (.wrDcHstart 0x71) 1 rfl rfl, decodes (.wrFxMult 0x40) 2 rfl rfl, decodes .rdFxAccum 6 rfl rfl,
    decodes (.rdUndef0 63) 63 rfl rfl, decodes (.wrL1VscrollH 0x0F) 0 rfl rfl, decodes (.wrAudioRate 0x80) 0 rfl rfl,
    decodes .drdComp12 7 rfl rfl, decodes (.hostStep 420000) 0 rfl rfl, decodes .hostDump 0 rfl rfl⟩

/-! ## Encoding what a command decodes to (O2) -/

/-- The operation is one of the device, and the command is its spelling in the bank `dcsel`. -/
structure Spells (dcsel : BitVec 6) (c : HostCommand) (i : Instr) : Prop where
  wellFormed : i.wellFormed = true
  spelledUnder : i.spelledUnder dcsel = true
  word : (encode i).word = c.word
  operand : ∀ n, i = .hostStep n → n = c.operand

section
variable (dcsel : BitVec 6) (operand : Nat) (v : Byte) {k : Nat}

/-- The composer's indices: a slot of a defined bank, or the operation that carries an undefined bank (R114). -/
theorem spells_decodeRead_slot (hlow : 9 ≤ k) (hhigh : k ≤ 12) :
    Spells dcsel ⟨commandWord 0 (BitVec.ofNat 5 k) 0, operand⟩ (decodeRead dcsel k) := by
  induction dcsel using bank_cases with
  | defined bank hbank => interval_cases bank <;> interval_cases k <;> exact ⟨rfl, rfl, rfl, nofun⟩
  | undefined bank h =>
    obtain ⟨slot0, slot1, slot2, slot3⟩ := decodeReadSlots_of_undefined h
    interval_cases k <;> simp only [decodeRead, slot0, slot1, slot2, slot3] <;>
      exact ⟨h, beq_self_eq_true bank, rfl, nofun⟩

theorem spells_decodeWrite_slot (hlow : 9 ≤ k) (hhigh : k ≤ 12) :
    Spells dcsel ⟨commandWord 1 (BitVec.ofNat 5 k) v, operand⟩ (decodeWrite dcsel k v) := by
  induction dcsel using bank_cases with
  | defined bank hbank => interval_cases bank <;> interval_cases k <;> exact ⟨rfl, rfl, rfl, nofun⟩
  | undefined bank h =>
    obtain ⟨slot0, slot1, slot2, slot3⟩ := decodeWriteSlots_of_undefined h v
    interval_cases k <;> simp only [decodeWrite, slot0, slot1, slot2, slot3] <;>
      exact ⟨h, beq_self_eq_true bank, rfl, nofun⟩

/-- Outside the indices 9 to 12 a register is the same in every bank. -/
theorem spells_decodeRead (hk : k < 32) :
    Spells dcsel ⟨commandWord 0 (BitVec.ofNat 5 k) 0, operand⟩ (decodeRead dcsel k) := by
  by_cases hslot : 9 ≤ k ∧ k ≤ 12
  · exact spells_decodeRead_slot dcsel operand hslot.1 hslot.2
  · obtain hlow | hhigh : k < 9 ∨ 12 < k := by omega
    all_goals interval_cases k <;> exact ⟨rfl, rfl, rfl, nofun⟩

theorem spells_decodeWrite (hk : k < 32) :
    Spells dcsel ⟨commandWord 1 (BitVec.ofNat 5 k) v, operand⟩ (decodeWrite dcsel k v) := by
  by_cases hslot : 9 ≤ k ∧ k ≤ 12
  · exact spells_decodeWrite_slot dcsel operand v hslot.1 hslot.2
  · obtain hlow | hhigh : k < 9 ∨ 12 < k := by omega
    all_goals interval_cases k <;> exact ⟨rfl, rfl, rfl, nofun⟩

theorem spells_decodeDebugRead (hk : k < 32) :
    Spells dcsel ⟨commandWord 2 (BitVec.ofNat 5 k) 0, operand⟩ (decodeDebugRead k) := by
  interval_cases k <;> exact ⟨rfl, rfl, rfl, nofun⟩

theorem spells_of_decodeHostCall {i : Instr} (h : decodeHostCall k operand = .ok i) :
    Spells dcsel ⟨commandWord 3 (BitVec.ofNat 5 k) 0, operand⟩ i := by
  unfold decodeHostCall at h
  split at h <;> cases h
  case h_2 => exact ⟨rfl, rfl, rfl, fun n hn => (Instr.hostStep.inj hn).symm⟩
  all_goals exact ⟨rfl, rfl, rfl, nofun⟩

end

theorem kind_cases (kind : BitVec 2) : kind = 0 ∨ kind = 1 ∨ kind = 2 ∨ kind = 3 := by
  revert kind
  decide

section
variable {data : Byte} {answer : Except DecodeError Instr}

/-- Outside a WRITE only DATA 0 decodes (R116). -/
theorem dataGuard_ok {i : Instr} (h : (if data = 0 then answer else .error .dataNotZero) = .ok i) :
    data = 0 ∧ answer = .ok i := by
  split at h
  · next hdata => exact ⟨hdata, h⟩
  · cases h

theorem dataGuard_error_iff :
    (∃ e, (if data = 0 then answer else .error .dataNotZero) = .error e) ↔ data ≠ 0 ∨ ∃ e, answer = .error e := by
  by_cases hdata : data = 0
  · rw [if_pos hdata]
    exact ⟨.inr, fun h => h.resolve_left (not_not_intro hdata)⟩
  · rw [if_neg hdata]
    exact ⟨fun _ => .inl hdata, fun _ => ⟨_, rfl⟩⟩

end

theorem spells_of_decodeFields {dcsel : BitVec 6} {kind : BitVec 2} {reg : BitVec 5} {data : Byte} {operand : Nat}
    {i : Instr} (h : decodeFields dcsel kind reg data operand = .ok i) :
    Spells dcsel ⟨commandWord kind reg data, operand⟩ i := by
  obtain ⟨k, hk, rfl⟩ : ∃ k < 32, reg = BitVec.ofNat 5 k := ⟨reg.toNat, reg.isLt, by simp⟩
  have index : (BitVec.ofNat 5 k).toNat = k := Nat.mod_eq_of_lt hk
  obtain rfl | rfl | rfl | rfl := kind_cases kind
  · obtain ⟨rfl, hread⟩ := dataGuard_ok h
    rw [index] at hread
    cases hread
    exact spells_decodeRead dcsel operand hk
  · rw [decodeFields_write, index] at h
    cases h
    exact spells_decodeWrite dcsel operand data hk
  · obtain ⟨rfl, hread⟩ := dataGuard_ok h
    rw [index] at hread
    cases hread
    exact spells_decodeDebugRead dcsel operand hk
  · obtain ⟨rfl, hcall⟩ := dataGuard_ok h
    rw [index] at hcall
    exact spells_of_decodeHostCall dcsel operand hcall

theorem spells_of_decode {dcsel : BitVec 6} {c : HostCommand} {i : Instr} (h : decode dcsel c = .ok i) :
    Spells dcsel c i := by
  obtain ⟨word, operand⟩ := c
  obtain ⟨kind, reg, data, rfl, hfields⟩ := decodeFields_of_decode h
  exact spells_of_decodeFields hfields

/-- Settles O2, by the four kinds of command. -/
theorem encodeOfDecodeIsTheCommand : Obligations.EncodeOfDecodeIsTheCommand := by
  intro dcsel c i h
  obtain ⟨hwf, hbank, hword, hoperand⟩ := spells_of_decode h
  exact ⟨hwf, hbank, hword, hoperand⟩

/-! ## Words that spell no operation (R116) -/

/-- The call numbers of R112 are 0 to 5. -/
theorem decodeHostCall_error_iff (call operand : Nat) :
    (∃ e, decodeHostCall call operand = .error e) ↔ 6 ≤ call := by
  match call with
  | 0 | 1 | 2 | 3 | 4 | 5 => simp [decodeHostCall]
  | n + 6 => simp [decodeHostCall]

theorem decodeFields_error_iff (dcsel : BitVec 6) (kind : BitVec 2) (reg : BitVec 5) (data : Byte) (operand : Nat) :
    (∃ e, decodeFields dcsel kind reg data operand = .error e) ↔
      (kind ≠ 1 ∧ data ≠ 0) ∨ (kind = 3 ∧ 6 ≤ reg.toNat) := by
  obtain rfl | rfl | rfl | rfl := kind_cases kind
  · rw [decodeFields_read, dataGuard_error_iff]
    simp
  · rw [decodeFields_write]
    simp
  · rw [decodeFields_debugRead, dataGuard_error_iff]
    simp
  · rw [decodeFields_hostCall, dataGuard_error_iff, decodeHostCall_error_iff]
    simp

theorem decode_error_iff (dcsel : BitVec 6) (c : HostCommand) :
    (∃ e, decode dcsel c = .error e) ↔
      c.word.getLsbD 13 = true ∨ (c.word.extractLsb' 14 2 ≠ 1 ∧ c.word.extractLsb' 0 8 ≠ 0) ∨
        (c.word.extractLsb' 14 2 = 3 ∧ 6 ≤ (c.word.extractLsb' 8 5).toNat) := by
  rw [decode_eq, ← decodeFields_error_iff dcsel _ _ _ c.operand]
  by_cases h : c.word.getLsbD 13 = true
  · rw [if_pos h]
    exact ⟨fun _ => .inl h, fun _ => ⟨_, rfl⟩⟩
  · rw [if_neg h]
    exact ⟨.inr, fun refused => refused.resolve_left h⟩

end Sys2Proof

namespace Sys2Proof.Machine

/-! ## The refusal of a step (O3) -/

/-- Every operation answers a next state (R400). -/
theorem exec_eq_next (i : Instr) (s : State) : ∃ t, exec i s = .next t := by
  cases i <;> exact ⟨_, rfl⟩

/-- A step refuses for the command presented alone, and only when that does not decode. -/
theorem step_refused_iff {s : State} {op : PendingOp} {rest : List PendingOp} (hq : s.queue = op :: rest) :
    (∃ e, step s = .refused (.invalidCommand e)) ↔ ∃ e, decode s.dcsel op.command = .error e := by
  cases hd : decode s.dcsel op.command with
  | ok i =>
    obtain ⟨t, ht⟩ := exec_eq_next i (present op rest s)
    simp [step_of_decode hq hd, ht]
  | error e =>
    have hnext : decodeNext s op = .error e := hd
    simp [step, hq, hnext]

/-- Settles O3: the words the decoder refuses, by the numbers in their fields. -/
theorem invalidWordsAreRefused : Obligations.InvalidWordsAreRefused := by
  intro s op rest hq
  rw [step_refused_iff hq, decode_error_iff]
  simp only [ne_eq, BitVec.toNat_eq, kindField_toNat, regField_toNat, dataField_toNat, reservedBit_eq,
    decide_eq_true_eq]
  exact Iff.rfl

end Sys2Proof.Machine
end

section
/-! Proofs of the ports and control family (spec/40_ports_and_control.md): the address registers (O14, O15), the data
read with the FX engine off (O17, O21), CTRL (O34) and the interrupt registers (O36, O37). -/

namespace Sys2Proof.Machine

/-! ## Fields as numbers -/

theorem eq_ofNat_of_toNat_eq {w n : Nat} {x : BitVec w} (h : x.toNat = n) : x = BitVec.ofNat w n := by
  rw [← h, BitVec.ofNat_toNat, BitVec.setWidth_eq]

theorem toNat_extractLsb'_eq {w : Nat} (x : BitVec w) (start len : Nat) :
    (x.extractLsb' start len).toNat = x.toNat / 2 ^ start % 2 ^ len := by
  rw [BitVec.extractLsb'_toNat, Nat.shiftRight_eq_div_pow]

theorem extractLsb'_eq_ofNat {w : Nat} (x : BitVec w) (start len : Nat) :
    x.extractLsb' start len = BitVec.ofNat len (x.toNat / 2 ^ start) :=
  BitVec.eq_of_toNat_eq (by rw [toNat_extractLsb'_eq, BitVec.toNat_ofNat])

theorem extractLsb'_eq_ofNat_mod {w : Nat} (x : BitVec w) (start len : Nat) :
    x.extractLsb' start len = BitVec.ofNat len (x.toNat / 2 ^ start % 2 ^ len) :=
  eq_ofNat_of_toNat_eq (toNat_extractLsb'_eq x start len)

theorem extractLsb'_zero_eq_ofNat_mod {w : Nat} (x : BitVec w) (len : Nat) :
    x.extractLsb' 0 len = BitVec.ofNat len (x.toNat % 2 ^ len) := by
  rw [extractLsb'_eq_ofNat_mod, pow_zero, Nat.div_one]

/-- A number with the `len` bits at `lo` replaced by `v`, bit by bit. -/
theorem testBit_replaceField {v len : Nat} (hv : v < 2 ^ len) (x lo i : Nat) :
    (2 ^ lo * (2 ^ len * (x / 2 ^ (lo + len)) + v) + x % 2 ^ lo).testBit i =
      if lo ≤ i ∧ i < lo + len then v.testBit (i - lo) else x.testBit i := by
  rw [Nat.testBit_two_pow_mul_add _ (Nat.mod_lt _ (Nat.two_pow_pos lo)), Nat.testBit_two_pow_mul_add _ hv,
    Nat.testBit_div_two_pow, Nat.testBit_mod_two_pow]
  by_cases hlow : i < lo
  · simp [hlow]
  · by_cases hfield : i < lo + len
    · simp [hlow, hfield, show i - lo < len by omega, show lo ≤ i by omega]
    · simp [hlow, hfield, show ¬ i - lo < len by omega, show i - lo - len + (lo + len) = i by omega]

/-- An address whose `len` bits at `lo`, the bits its mask clears, are replaced by `v`: bit by bit the mask chooses
between the two, and from bit 17 up both sides are clear. -/
theorem toNat_replaceField {mask : VAddr} {lo len : Nat} (a : VAddr) (v : BitVec len)
    (hmask : ∀ i : Fin 17, mask.getLsbD i = !decide (lo ≤ i.val ∧ i.val < lo + len)) (hfit : lo + len ≤ 17) :
    ((a &&& mask) ||| (v.setWidth 17 <<< lo)).toNat =
      2 ^ lo * (2 ^ len * (a.toNat / 2 ^ (lo + len)) + v.toNat) + a.toNat % 2 ^ lo := by
  refine Nat.eq_of_testBit_eq fun i => ?_
  rw [testBit_replaceField v.isLt, BitVec.testBit_toNat, BitVec.testBit_toNat, BitVec.testBit_toNat]
  simp only [BitVec.getLsbD_or, BitVec.getLsbD_and, BitVec.getLsbD_shiftLeft, BitVec.getLsbD_setWidth]
  by_cases hi : i < 17
  · rw [hmask ⟨i, hi⟩]
    grind
  · grind

theorem withAddrL_toNat (a : VAddr) (v : Byte) : (withAddrL a v).toNat = a.toNat / 256 * 256 + v.toNat := by
  have h := toNat_replaceField (mask := 0x1FF00#17) (lo := 0) a v (by decide) (by decide)
  rw [BitVec.shiftLeft_zero] at h
  rw [withAddrL, h]
  omega

theorem withAddrM_toNat (a : VAddr) (v : Byte) :
    (withAddrM a v).toNat = a.toNat / 65536 * 65536 + v.toNat * 256 + a.toNat % 256 := by
  rw [withAddrM, toNat_replaceField a v (by decide) (by decide)]
  omega

theorem withAddrH_toNat (a : VAddr) (v : Byte) :
    (withAddrH a v).toNat = v.toNat % 2 * 65536 + a.toNat % 65536 := by
  rw [withAddrH, toNat_replaceField a _ (by decide) (by decide), BitVec.extractLsb'_toNat]
  omega

/-! ## The address registers (O14, O15) -/

theorem addrHByte_toNat (q : Port) :
    (addrHByte q).toNat = q.inc.toNat * 8 + q.nibInc.toNat * 4 + q.nib.toNat * 2 + q.addr.toNat / 65536 := by
  have haddr := q.addr.isLt
  simp only [addrHByte, toNat_append_eq, BitVec.toNat_ofBool, toNat_extractLsb'_eq]
  omega

/-- Settles O14: each register is its part of the selected port's fields. -/
theorem addressRegisterReads : Obligations.AddressRegisterReads := by
  rintro s q rfl
  refine ⟨?_, ?_, ?_⟩
  · exact congrArg (answerByte · s) (extractLsb'_zero_eq_ofNat_mod (s.port s.addrSel).addr 8)
  · exact congrArg (answerByte · s) (extractLsb'_eq_ofNat_mod (s.port s.addrSel).addr 8 8)
  · exact congrArg (answerByte · s) (eq_ofNat_of_toNat_eq (addrHByte_toNat (s.port s.addrSel)))

/-- A port replaced and its read cache refilled: the cache holds the byte at the new port's address. -/
theorem reprime_setPort (p : PortId) (q : Port) (s : State) :
    reprime p (s.setPort p q) = s.setPort p { q with rdData := s.readByte q.addr } := by
  cases p <;> rfl

/-- Refilling a read cache does not see the FX registers. -/
theorem reprime_setFx (p : PortId) (fx : Fx) (s : State) : reprime p (s.setFx fx) = (reprime p s).setFx fx := by
  cases p <;> rfl

theorem setPort_setFx_self (p : PortId) (q : Port) (s : State) : (s.setPort p q).setFx s.fx = s.setPort p q := by
  cases p <;> rfl

/-- The low address byte, and the hop alignment from the byte on port 1 while HOP16 is set (R141). -/
theorem loadAddrL_eq (v : Byte) (s : State) :
    loadAddrL v s =
      (s.setPort s.addrSel { s.port s.addrSel with addr := withAddrL (s.port s.addrSel).addr v }).setFx
        (if s.addrSel = .port1 ∧ s.hop16 = true then { s.fx with hopAlign := BitVec.ofNat 2 v.toNat } else s.fx) := by
  have latch : v.extractLsb' 0 2 = BitVec.ofNat 2 v.toNat := by
    rw [extractLsb'_eq_ofNat, pow_zero, Nat.div_one]
  unfold loadAddrL
  dsimp only
  split
  · rw [latch, State.setPort_fx]
  · exact (setPort_setFx_self _ _ s).symm

/-- Settles O15: the new address is the old one with its part replaced, and the cache is refilled from it. -/
theorem addressRegisterWrites : Obligations.AddressRegisterWrites := by
  rintro s v _ _ _ rfl rfl rfl
  refine ⟨fun a ha => ?_, fun a ha => ?_, fun a ha => ?_⟩
  · obtain rfl : a = withAddrL (s.port s.addrSel).addr v :=
      BitVec.eq_of_toNat_eq (ha.trans (withAddrL_toNat _ v).symm)
    have refilled := congrArg answerNothing (congrArg (reprime s.addrSel) (loadAddrL_eq v s))
    rw [reprime_setFx, reprime_setPort] at refilled
    exact refilled
  · obtain rfl : a = withAddrM (s.port s.addrSel).addr v :=
      BitVec.eq_of_toNat_eq (ha.trans (withAddrM_toNat _ v).symm)
    exact congrArg answerNothing (reprime_setPort s.addrSel _ s)
  · obtain rfl : a = withAddrH (s.port s.addrSel).addr v :=
      BitVec.eq_of_toNat_eq (ha.trans (withAddrH_toNat _ v).symm)
    have increment : v.extractLsb' 3 5 = BitVec.ofNat 5 (v.toNat / 8) := extractLsb'_eq_ofNat v 3 5
    rw [← increment]
    exact congrArg answerNothing (reprime_setPort s.addrSel _ s)

/-! ## The data read with FX_CTRL = 0 (O17, O21) -/

section
variable {s : State} (hoff : s.comp[8] = 0)
include hoff

theorem cacheFill_of_fxOff : s.cacheFill = false := by
  rw [State.cacheFill, hoff]
  rfl

theorem dataRead_of_fxOff (p : PortId) : dataRead p s = reprime p (movePort p (portStep p s) s) := by
  have moved : portAdvance p false s = movePort p (portStep p s) s := portAdvance_of_fxOff hoff p false
  have direct : ¬ (p = .port1 ∧ s.a1Mode = 3) := by simp [a1Mode_of_fxOff hoff]
  have unfilled : ¬ s.cacheFill = true := by simp [cacheFill_of_fxOff hoff]
  rw [dataRead, if_neg unfilled, primedRead, if_neg direct, moved]

/-- With the FX engine off a data read answers the cached byte, moves its port by its step, refills the cache from
the new address, and does no more (R146, R147, R440). -/
theorem exec_read_of_fxOff (p : PortId) :
    exec p.readOp s = .next ((s.setPort p
      { s.port p with
        addr := addrPlus (s.port p).addr (portStep p s)
        rdData := s.readByte (addrPlus (s.port p).addr (portStep p s)) }).returning (.byte (s.port p).rdData)) := by
  rw [exec_readOp, dataRead_of_fxOff hoff, movePort, reprime_setPort]

end

/-- Settles O17, by the plain read of either port. -/
theorem plainDataReads : Obligations.PlainDataReads := by
  intro s hoff
  constructor
  · rintro _ rfl
    exact exec_read_of_fxOff hoff .port0
  · rintro _ rfl
    exact exec_read_of_fxOff hoff .port1

/-- What the next read of the same port sees of a read: FX_CTRL and the increment as before, the address one step
on. -/
theorem exec_read_next {s : State} (hoff : s.comp[8] = 0) (p : PortId) :
    ∃ t, exec p.readOp s = .next t ∧ t.comp[8] = 0 ∧ (t.port p).inc = (s.port p).inc ∧
      (t.port p).addr = (s.port p).addr + BitVec.ofInt 17 (portStep p s) := by
  refine ⟨_, exec_read_of_fxOff hoff p, ?_, ?_, ?_⟩
  · simpa using hoff
  · simp
  · simp [addrPlus]

theorem ofInt_add_ofInt_mul (n : Nat) (step : Int) :
    BitVec.ofInt 17 step + BitVec.ofInt 17 (n * step) = BitVec.ofInt 17 ((n + 1 : Nat) * step) := by
  have sum : step + n * step = (n + 1 : Nat) * step := by
    push_cast
    ring
  rw [← BitVec.ofInt_add, sum]

/-- `n` reads move the address by `n` steps: each read moves it by one and leaves the increment and FX_CTRL to the
next. -/
theorem repeatOp_read_of_fxOff (p : PortId) (n : Nat) : ∀ s : State, s.comp[8] = 0 →
    ∃ t, repeatOp p.readOp n s = .next t ∧
      (t.port p).addr = (s.port p).addr + BitVec.ofInt 17 (n * portStep p s) := by
  induction n with
  | zero =>
    intro s _
    exact ⟨s, rfl, by simp⟩
  | succ n ih =>
    intro s hoff
    obtain ⟨u, hfirst, huoff, hinc, hmoved⟩ := exec_read_next hoff p
    obtain ⟨t, hrun, haddr⟩ := ih u huoff
    refine ⟨t, ?_, ?_⟩
    · rw [repeatOp, hfirst]
      exact hrun
    · have hstep : portStep p u = portStep p s := congrArg stepOf hinc
      rw [haddr, hmoved, hstep, BitVec.add_assoc, ofInt_add_ofInt_mul]

/-- Settles O21, by induction on the number of reads. -/
theorem autoIncrementIsExact : Obligations.AutoIncrementIsExact := fun p s n hoff => repeatOp_read_of_fxOff p n s hoff

/-! ## CTRL (O34) -/

theorem ctrlByte_toNat (dcsel : BitVec 6) (p : PortId) :
    (ctrlByte dcsel p).toNat = dcsel.toNat * 2 + if p = .port1 then 1 else 0 := by
  have reserved : (0#1 ++ dcsel).toNat = dcsel.toNat := by
    rw [toNat_append_eq]
    simp
  rw [ctrlByte, toNat_append_eq, reserved]
  cases p <;> rfl

/-- `WR CTRL` selects DCSEL by bits 6 to 1 and ADDRSEL by bit 0 (R151). -/
theorem selectBank_eq (v : Byte) (s : State) :
    selectBank v s =
      { s with dcsel := BitVec.ofNat 6 (v.toNat / 2), addrSel := if v.toNat % 2 = 1 then .port1 else .port0 } := by
  have bank : v.extractLsb' 1 6 = BitVec.ofNat 6 (v.toNat / 2) := extractLsb'_eq_ofNat v 1 6
  have select : portOfBit (v.getLsbD 0) = if v.toNat % 2 = 1 then .port1 else .port0 := by
    rw [portOfBit, getLsbD_eq_decide, pow_zero, Nat.div_one]
    simp only [decide_eq_true_eq]
  rw [selectBank, bank, select]
  rfl

/-- Settles O34, by the two forms of the write. -/
theorem controlRegister : Obligations.ControlRegister := by
  intro s v
  refine ⟨?_, fun hclear => ?_, fun hset => ?_⟩
  · exact congrArg (answerByte · s) (eq_ofNat_of_toNat_eq (ctrlByte_toNat s.dcsel s.addrSel))
  · rw [exec_wrCtrl_of_not_resets (Nat.not_le_of_lt hclear), selectBank_eq]
    rfl
  · refine ⟨(resetDevice s).returning .nothing, rfl, ?_⟩
    rw [exec_wrCtrl_of_resets hset, selectBank_eq]
    rfl

/-! ## The interrupt registers (O36, O37) -/

theorem scanline_toNat (s : State) : (scanline s).toNat = scanlineValue s := rfl

theorem ienByte_toNat (s : State) :
    (ienByte s).toNat = s.irqLine.toNat / 256 * 128 + scanlineValue s / 256 * 64 + s.ien.toNat := by
  have hcompare := s.irqLine.isLt
  have hline := (scanline s).isLt
  rw [scanline_toNat] at hline
  simp only [ienByte, toNat_append_eq, toNat_extractLsb'_eq, scanline_toNat, BitVec.toNat_ofNat]
  omega

theorem sourceBits_toNat (s : State) :
    (sourceBits s).toNat =
      s.inputs.aflow.toNat * 8 + s.isr.sprCol.toNat * 4 + s.isr.line.toNat * 2 + s.isr.vsync.toNat := by
  simp only [sourceBits, toNat_append_eq, BitVec.toNat_ofBool]
  omega

theorem isrByte_toNat (s : State) :
    (isrByte s).toNat =
      s.isr.coll.toNat * 16 + s.inputs.aflow.toNat * 8 + s.isr.sprCol.toNat * 4 + s.isr.line.toNat * 2 +
        s.isr.vsync.toNat := by
  rw [isrByte, toNat_append_eq, sourceBits_toNat]
  omega

/-- A nibble is nonzero when one of its bits is set. -/
theorem nibble_bne_zero (n : BitVec 4) :
    (n != 0) = (n.getLsbD 0 || n.getLsbD 1 || n.getLsbD 2 || n.getLsbD 3) := by
  revert n
  decide

theorem sourceBits_getLsbD (s : State) :
    (sourceBits s).getLsbD 0 = s.isr.vsync ∧ (sourceBits s).getLsbD 1 = s.isr.line ∧
      (sourceBits s).getLsbD 2 = s.isr.sprCol ∧ (sourceBits s).getLsbD 3 = s.inputs.aflow := by
  unfold sourceBits
  generalize s.inputs.aflow = aflow
  generalize s.isr.sprCol = sprCol
  generalize s.isr.line = line
  generalize s.isr.vsync = vsync
  revert aflow sprCol line vsync
  decide

/-- The output is the OR over the four sources of status and enable (R405). -/
theorem irqOutput_eq_or (s : State) :
    irqOutput s = (s.ien.getLsbD 0 && s.isr.vsync || s.ien.getLsbD 1 && s.isr.line ||
      s.ien.getLsbD 2 && s.isr.sprCol || s.ien.getLsbD 3 && s.inputs.aflow) := by
  obtain ⟨vsync, line, sprCol, aflow⟩ := sourceBits_getLsbD s
  rw [irqOutput, nibble_bne_zero]
  simp only [BitVec.getLsbD_and, vsync, line, sprCol, aflow]

/-- Settles O36, by the number each register's byte is. -/
theorem interruptReads : Obligations.InterruptReads := by
  intro s
  refine ⟨?_, ?_, ?_, ?_⟩
  · exact congrArg (answerByte · s) (eq_ofNat_of_toNat_eq (ienByte_toNat s))
  · exact congrArg (answerByte · s) (eq_ofNat_of_toNat_eq (isrByte_toNat s))
  · exact congrArg (answerByte · s) (extractLsb'_zero_eq_ofNat_mod (scanline s) 8)
  · exact congrArg (fun level => Host.Outcome.next (s.returning (.flag level))) (irqOutput_eq_or s)

/-- `IRQLINE[8]` and the enables, by arithmetic (R153). -/
theorem loadIen_eq (v : Byte) (s : State) :
    loadIen v s =
      { s with irqLine := BitVec.ofNat 9 (s.irqLine.toNat % 256 + v.toNat / 128 * 256)
               ien := BitVec.ofNat 4 (v.toNat % 16) } := by
  have hv := v.isLt
  have compare : (v.extractLsb' 7 1 ++ s.irqLine.extractLsb' 0 8 : BitVec 9) =
      BitVec.ofNat 9 (s.irqLine.toNat % 256 + v.toNat / 128 * 256) := by
    refine eq_ofNat_of_toNat_eq ?_
    rw [toNat_append_eq, toNat_extractLsb'_eq, toNat_extractLsb'_eq]
    omega
  have enables : v.extractLsb' 0 4 = BitVec.ofNat 4 (v.toNat % 16) := extractLsb'_zero_eq_ofNat_mod v 4
  rw [loadIen, compare, enables]
  rfl

/-- The low byte of the compare value replaced (R161). -/
theorem lowCompare_eq (line : BitVec 9) (v : Byte) :
    (line.extractLsb' 8 1 ++ v : BitVec 9) = BitVec.ofNat 9 (line.toNat / 256 * 256 + v.toNat) := by
  have hline := line.isLt
  refine eq_ofNat_of_toNat_eq ?_
  rw [toNat_append_eq, toNat_extractLsb'_eq]
  omega

/-- Write-one-to-clear of one status bit (R159). -/
theorem and_not_getLsbD (status : Bool) (v : Byte) (k : Nat) :
    (status && !v.getLsbD k) = if v.toNat / 2 ^ k % 2 = 1 then false else status := by
  rw [getLsbD_eq_decide]
  by_cases h : v.toNat / 2 ^ k % 2 = 1
  · simp [h]
  · simp [h]

theorem acknowledge_eq (v : Byte) (s : State) :
    acknowledge v s =
      { s with
        isr := { vsync := if v.toNat % 2 = 1 then false else s.isr.vsync
                 line := if v.toNat / 2 % 2 = 1 then false else s.isr.line
                 sprCol := if v.toNat / 4 % 2 = 1 then false else s.isr.sprCol
                 coll := s.isr.coll } } := by
  rw [acknowledge, and_not_getLsbD, and_not_getLsbD, and_not_getLsbD, pow_zero, Nat.div_one]
  rfl

/-- Settles O37, by what each write leaves in the registers. -/
theorem interruptWrites : Obligations.InterruptWrites := by
  intro s v
  refine ⟨?_, ?_, ?_⟩
  · exact congrArg answerNothing (loadIen_eq v s)
  · exact congrArg (fun compare => answerNothing (s.setIrqLine compare)) (lowCompare_eq s.irqLine v)
  · exact congrArg answerNothing (acknowledge_eq v s)

end Sys2Proof.Machine
end

section
/-! Proofs of the composer register family (spec/41_composer_registers.md): the undefined and write-only slots (O40)
and the display control slots (O38, O39). -/

namespace Sys2Proof.Machine

/-! ## Reading and storing a slot -/

/-- FIELD above the low seven bits, by arithmetic (R181, R182). -/
theorem videoByte_eq (field : Bool) (v : Byte) :
    videoByte field v = BitVec.ofNat 8 (field.toNat * 128 + v.toNat % 128) := by
  refine eq_ofNat_of_toNat_eq ?_
  rw [videoByte, toNat_append_eq, BitVec.toNat_ofBool, toNat_extractLsb'_eq, pow_zero, Nat.div_one]
  rfl

/-- Slots 1 to 8 read their byte. -/
theorem slotRead_stored (s : State) (slot : BitVec 8) (hslot : slot ≠ 0 ∧ slot.toNat ≤ 8) :
    slotRead slot s = s.comp[slot.toNat]'slot.isLt := by
  obtain ⟨hzero, hle⟩ := hslot
  rw [slotRead, if_neg hzero, if_pos hle]

/-- The slots that answer with the version string: all from 9 on but the span length in 22 and 23 (R190, R203). -/
abbrev AnswersVersion (slot : BitVec 8) : Prop := 9 ≤ slot.toNat ∧ slot ≠ 22 ∧ slot ≠ 23

theorem slotRead_version (s : State) {slot : BitVec 8} (hslot : AnswersVersion slot) :
    slotRead slot s = versionByte (slot.extractLsb' 0 2) s := by
  obtain ⟨hlow, h22, h23⟩ := hslot
  have hzero : slot ≠ 0 := by
    rintro rfl
    exact absurd hlow (by decide)
  rw [slotRead, if_neg hzero, if_neg (by omega), if_neg h22, if_neg h23]

theorem storeSlot_of_ne_zero {slot : BitVec 8} (hslot : slot ≠ 0) (v : Byte) (s : State) :
    storeSlot slot v s = s.setComp (s.comp.set slot.toNat v slot.isLt) := by
  rw [storeSlot, if_neg hslot]

/-! ## The undefined and the write-only slots (O40) -/

theorem undefinedSlot_toNat (bank : BitVec 6) (k : BitVec 2) :
    (undefinedSlot bank k).toNat = bank.toNat * 4 + k.toNat := toNat_append_eq bank k

/-- The version byte of an undefined slot is chosen by its index in the bank alone. -/
theorem undefinedSlot_index (bank : BitVec 6) (k : BitVec 2) : (undefinedSlot bank k).extractLsb' 0 2 = k := by
  have hk := k.isLt
  refine BitVec.eq_of_toNat_eq ?_
  rw [toNat_extractLsb'_eq, undefinedSlot_toNat]
  omega

section
variable {bank : BitVec 6} (hbank : 7 ≤ bank.toNat)
include hbank

/-- The undefined banks lie above the last defined slot, 27. -/
theorem undefinedSlot_ne (k : BitVec 2) {slot : BitVec 8} (hslot : slot.toNat ≤ 27) :
    undefinedSlot bank k ≠ slot := by
  rintro rfl
  rw [undefinedSlot_toNat] at hslot
  omega

theorem undefinedSlot_answersVersion (k : BitVec 2) : AnswersVersion (undefinedSlot bank k) := by
  refine ⟨?_, undefinedSlot_ne hbank k (by decide), undefinedSlot_ne hbank k (by decide)⟩
  rw [undefinedSlot_toNat]
  omega

theorem slotRead_undefined (k : BitVec 2) (s : State) : slotRead (undefinedSlot bank k) s = versionByte k s := by
  rw [slotRead_version s (undefinedSlot_answersVersion hbank k), undefinedSlot_index]

/-- A write of an undefined slot changes its byte of the composer file and no other part of the state (R189). -/
theorem storeSlot_undefined (k : BitVec 2) (v : Byte) (s : State) :
    ∃ t, answerNothing (storeSlot (undefinedSlot bank k) v s) = .next t ∧
      t = { s with comp := t.comp, result := .nothing } ∧
      ∀ j : Fin 256, t.comp[j] = if j.val = bank.toNat * 4 + k.toNat then v else s.comp[j] := by
  have stored : storeSlot (undefinedSlot bank k) v s = s.setComp (s.comp.set _ v (undefinedSlot bank k).isLt) :=
    storeSlot_of_ne_zero (undefinedSlot_ne hbank k (by decide)) v s
  rw [stored]
  refine ⟨_, rfl, rfl, fun j => ?_⟩
  simp only [State.returning_comp, State.setComp_comp, Fin.getElem_fin, Vector.getElem_set, undefinedSlot_toNat,
    eq_comm (b := j.val)]

theorem answerByte_undefined (k : BitVec 2) (s : State) :
    answerByte (slotRead (undefinedSlot bank k) s) s = answerByte (versionByte k s) s :=
  congrArg (answerByte · s) (slotRead_undefined hbank k s)

end

theorem answerByte_version (s : State) (slot : BitVec 8) (hslot : AnswersVersion slot) :
    answerByte (slotRead slot s) s = answerByte (versionByte (slot.extractLsb' 0 2) s) s :=
  congrArg (answerByte · s) (slotRead_version s hslot)

/-- Settles O40: the four undefined slots of a bank by their index, the write-only slots by their number. -/
theorem undefinedAndWriteOnlySlots : Obligations.UndefinedAndWriteOnlySlots := by
  intro s bank v i hbank
  refine ⟨?_, ?_, ?_, ?_, ?_⟩
  · rintro k (⟨rfl, rfl⟩ | ⟨rfl, rfl⟩ | ⟨rfl, rfl⟩ | ⟨rfl, rfl⟩)
    · exact storeSlot_undefined hbank 0 v s
    · exact storeSlot_undefined hbank 1 v s
    · exact storeSlot_undefined hbank 2 v s
    · exact storeSlot_undefined hbank 3 v s
  · rintro (rfl | rfl | rfl | rfl)
    · exact answerByte_undefined hbank 0 s
    · exact answerByte_version s 12 (by decide)
    · exact answerByte_version s 16 (by decide)
    · exact answerByte_version s 20 (by decide)
  · rintro (rfl | rfl | rfl | rfl | rfl)
    · exact answerByte_undefined hbank 1 s
    · exact answerByte_version s 9 (by decide)
    · exact answerByte_version s 13 (by decide)
    · exact answerByte_version s 17 (by decide)
    · exact answerByte_version s 21 (by decide)
  · rintro (rfl | rfl | rfl | rfl | rfl)
    · exact answerByte_undefined hbank 2 s
    · exact answerByte_version s 10 (by decide)
    · exact answerByte_version s 14 (by decide)
    · exact answerByte_version s 18 (by decide)
    · exact answerByte_version s 26 (by decide)
  · rintro (rfl | rfl | rfl | rfl | rfl)
    · exact answerByte_undefined hbank 3 s
    · exact answerByte_version s 11 (by decide)
    · exact answerByte_version s 15 (by decide)
    · exact answerByte_version s 19 (by decide)
    · exact answerByte_version s 27 (by decide)

/-! ## The display control slots (O38, O39) -/

/-- Slot 0 reads with FIELD in bit 7 (R181). -/
theorem slotRead_video (s : State) :
    slotRead 0 s = BitVec.ofNat 8 (s.scan.field.toNat * 128 + s.comp[0].toNat % 128) :=
  videoByte_eq s.scan.field s.comp[0]

theorem answerByte_stored (s : State) (slot : BitVec 8) (hslot : slot ≠ 0 ∧ slot.toNat ≤ 8) :
    answerByte (slotRead slot s) s = answerByte (s.comp[slot.toNat]'slot.isLt) s :=
  congrArg (answerByte · s) (slotRead_stored s slot hslot)

/-- Settles O38: slot 0 by its two parts, slots 1 to 7 by the byte they store. -/
theorem displayControlReads : Obligations.DisplayControlReads := fun s =>
  ⟨congrArg (answerByte · s) (slotRead_video s),
    answerByte_stored s 1 (by decide), answerByte_stored s 2 (by decide),
    answerByte_stored s 3 (by decide), answerByte_stored s 4 (by decide),
    answerByte_stored s 5 (by decide), answerByte_stored s 6 (by decide),
    answerByte_stored s 7 (by decide)⟩

/-- Slot 0 stores the low seven bits under FIELD (R182). -/
theorem storeSlot_video (v : Byte) (s : State) :
    storeSlot 0 v s =
      s.setComp (s.comp.set 0 (BitVec.ofNat 8 (s.scan.field.toNat * 128 + v.toNat % 128))) := by
  rw [← videoByte_eq]
  rfl

theorem answerNothing_storeSlot (s : State) (v : Byte) (slot : BitVec 8) (hslot : slot ≠ 0) :
    answerNothing (storeSlot slot v s) = answerNothing (s.setComp (s.comp.set slot.toNat v slot.isLt)) :=
  congrArg answerNothing (storeSlot_of_ne_zero hslot v s)

/-- Settles O39: slot 0 under FIELD, slots 1 to 7 as they are written. -/
theorem displayControlWrites : Obligations.DisplayControlWrites := fun s v =>
  ⟨congrArg answerNothing (storeSlot_video v s),
    answerNothing_storeSlot s v 1 (by decide), answerNothing_storeSlot s v 2 (by decide),
    answerNothing_storeSlot s v 3 (by decide), answerNothing_storeSlot s v 4 (by decide),
    answerNothing_storeSlot s v 5 (by decide), answerNothing_storeSlot s v 6 (by decide),
    answerNothing_storeSlot s v 7 (by decide)⟩

end Sys2Proof.Machine
end

section
/-! Proofs of the FX register family (spec/42_fx_registers.md): the stored bytes (O41), the increments (O42), the
positions (O43), the accumulator (O33) and the span length (O28). -/

namespace Sys2Proof.Machine

/-! ## The slots that store a byte (O41) -/

theorem a1Mode_toNat (s : State) : s.a1Mode.toNat = s.comp[8].toNat % 4 := by
  rw [State.a1Mode, toNat_extractLsb'_eq, pow_zero, Nat.div_one]
  rfl

/-- The top bit of a byte by its number. -/
theorem getLsbD_seven (v : Byte) : v.getLsbD 7 = decide (128 ≤ v.toNat) := by
  have hbyte := v.isLt
  rw [getLsbD_eq_decide, decide_eq_decide]
  omega

theorem affineBase_eq (b : Byte) : affineBase b = b.toNat / 4 * 2048 := by
  have hbyte := b.isLt
  rw [affineBase, toNat_extractLsb'_eq]
  omega

theorem affineMapSize_eq (b : Byte) : affineMapSize b = 2 * 4 ^ (b.toNat % 4) := by
  rw [affineMapSize, toNat_extractLsb'_eq, pow_zero, Nat.div_one, Nat.shiftLeft_eq, pow_mul]
  rfl

/-- Settles O41: every slot stores its byte, and each field is its bits of the byte just stored. -/
theorem fxRegisterBytes : Obligations.FxRegisterBytes := by
  intro s v
  have ctrl : (s.comp.set 8 v)[8] = v := Vector.getElem_set_self (by decide)
  have tilebase : (s.comp.set 9 v)[9] = v := Vector.getElem_set_self (by decide)
  have mapbase : (s.comp.set 10 v)[10] = v := Vector.getElem_set_self (by decide)
  have bit (k : Nat) : (s.comp.set 8 v)[8].getLsbD k = decide (v.toNat / 2 ^ k % 2 = 1) := by
    rw [ctrl, getLsbD_eq_decide]
  refine ⟨answerByte_stored s 8 (by decide), ⟨_, rfl, rfl, ?_, bit 6, bit 5, bit 4, bit 3, bit 2, ?_⟩,
    ⟨_, rfl, rfl, ?_, ?_⟩, ⟨_, rfl, rfl, ?_, ?_⟩, rfl, rfl, rfl, rfl, rfl, rfl⟩
  · exact (congrArg (BitVec.getLsbD · 7) ctrl).trans (getLsbD_seven v)
  · exact (a1Mode_toNat _).trans (congrArg (fun b : Byte => b.toNat % 4) ctrl)
  · exact (congrArg affineBase tilebase).trans (affineBase_eq v)
  · exact (congrArg (BitVec.getLsbD · 1) tilebase).trans (getLsbD_eq_decide v 1)
  · exact (congrArg affineBase mapbase).trans (affineBase_eq v)
  · exact (congrArg affineMapSize mapbase).trans (affineMapSize_eq v)

/-! ## The increments (O42) -/

/-- A shift to the left multiplies the signed number when the product still fits. -/
theorem toInt_shiftLeft_of_fits {x : Fixed} {n : Nat} (hn : n + 1 < 32)
    (hlow : -2147483648 ≤ x.toInt * 2 ^ n) (hhigh : x.toInt * 2 ^ n < 2147483648) :
    (x <<< n).toInt = x.toInt * 2 ^ n := by
  have factor : (BitVec.twoPow 32 n).toInt = 2 ^ n := by
    rw [BitVec.toInt_twoPow, if_neg (by omega), if_neg (by omega)]
  rw [BitVec.shiftLeft_eq_mul_twoPow, BitVec.toInt_mul, factor]
  exact Int.bmod_eq_of_le hlow hhigh

/-- The 15 bits of an increment: the low seven of its high byte, then its low byte (R212). -/
def incrementBits (h l : Byte) : BitVec 15 := h.extractLsb' 0 7 ++ l

theorem incrOf_eq (h l : Byte) :
    incrOf h l =
      if 128 ≤ h.toNat then ((incrementBits h l).signExtend 32 <<< 7) <<< 5
      else (incrementBits h l).signExtend 32 <<< 7 := by
  simp only [incrOf, getLsbD_seven, decide_eq_true_eq]
  rfl

theorem incrementBits_toInt (h l : Byte) :
    (incrementBits h l).toInt =
      if h.toNat % 128 * 256 + l.toNat < 16384 then ((h.toNat % 128 * 256 + l.toNat : Nat) : Int)
      else ((h.toNat % 128 * 256 + l.toNat : Nat) : Int) - 32768 := by
  rw [incrementBits, BitVec.toInt_eq_toNat_cond, toNat_append_eq, toNat_extractLsb'_eq, pow_zero, Nat.div_one]
  split <;> split <;> omega

theorem incrementValue_eq (h l : Byte) :
    incrementValue h l =
      if 128 ≤ h.toNat then (incrementBits h l).toInt * 128 * 32 else (incrementBits h l).toInt * 128 := by
  rw [incrementBits_toInt]
  simp only [incrementValue]
  norm_cast

/-- The increment of two bytes is the number R212 gives them: neither shift overflows. -/
theorem incrOf_toInt (h l : Byte) : (incrOf h l).toInt = incrementValue h l := by
  have hlow := BitVec.le_toInt (incrementBits h l)
  have hhigh := BitVec.toInt_lt (x := incrementBits h l)
  have extended : ((incrementBits h l).signExtend 32).toInt = (incrementBits h l).toInt :=
    BitVec.toInt_signExtend_of_le (by decide)
  have base : ((incrementBits h l).signExtend 32 <<< 7).toInt = (incrementBits h l).toInt * 2 ^ 7 := by
    rw [toInt_shiftLeft_of_fits (by decide) (by omega) (by omega), extended]
  rw [incrOf_eq, incrementValue_eq]
  split
  · rw [toInt_shiftLeft_of_fits (by decide) (by omega) (by omega), base]
    rfl
  · exact base

theorem eq_incrOf {inc : Fixed} {h l : Byte} (hinc : inc.toInt = incrementValue h l) : incrOf h l = inc :=
  BitVec.eq_of_toInt_eq ((incrOf_toInt h l).trans hinc.symm)

theorem reloadXInc_setComp {comp : Vector Byte 256} {h l : Byte} {inc : Fixed} (hh : comp[13] = h) (hl : comp[12] = l)
    (hinc : inc.toInt = incrementValue h l) (s : State) :
    reloadXInc (s.setComp comp) = (s.setComp comp).setFx { s.fx with xInc := inc } := by
  rw [← eq_incrOf hinc, ← hh, ← hl]
  rfl

theorem reloadYInc_setComp {comp : Vector Byte 256} {h l : Byte} {inc : Fixed} (hh : comp[15] = h) (hl : comp[14] = l)
    (hinc : inc.toInt = incrementValue h l) (s : State) :
    reloadYInc (s.setComp comp) = (s.setComp comp).setFx { s.fx with yInc := inc } := by
  rw [← eq_incrOf hinc, ← hh, ← hl]
  rfl

/-- Settles O42: each write reloads the increment from the byte just stored and the other byte of its pair. -/
theorem incrementRegisters : Obligations.IncrementRegisters := by
  intro s v inc
  have written {k : Nat} (hk : k < 256) : (s.comp.set k v)[k] = v := Vector.getElem_set_self hk
  have kept {k j : Nat} (hk : k < 256) (hj : j < 256) (hne : k ≠ j) : (s.comp.set k v)[j] = s.comp[j] :=
    Vector.getElem_set_ne hk hj hne
  refine ⟨fun hinc => ?_, fun hinc => ?_, fun hinc => ?_, fun hinc => ?_⟩
  · exact congrArg answerNothing
      (reloadXInc_setComp (kept (by decide) (by decide) (by decide)) (written (by decide)) hinc s)
  · exact congrArg answerNothing
      (reloadXInc_setComp (written (by decide)) (kept (by decide) (by decide) (by decide)) hinc s)
  · exact congrArg answerNothing
      (reloadYInc_setComp (kept (by decide) (by decide) (by decide)) (written (by decide)) hinc s)
  · exact congrArg answerNothing
      (reloadYInc_setComp (written (by decide)) (kept (by decide) (by decide) (by decide)) hinc s)

/-! ## The positions (O43) -/

/-- A position from its writable parts: integer bits 10:8 and 7:0, and the fraction's high byte and next bit. -/
def positionOf (high : BitVec 3) (low sub : Byte) (half : BitVec 1) : Fixed :=
  0#5 ++ high ++ low ++ sub ++ half ++ 0#7

theorem positionOf_toNat (high : BitVec 3) (low sub : Byte) (half : BitVec 1) :
    (positionOf high low sub half).toNat =
      high.toNat * 2 ^ 24 + low.toNat * 2 ^ 16 + sub.toNat * 2 ^ 8 + half.toNat * 2 ^ 7 := by
  simp only [positionOf, toNat_append_eq, BitVec.toNat_ofNat]
  omega

theorem positionOf_getLsbD (high : BitVec 3) (low sub : Byte) (half : BitVec 1) (i : Nat) :
    (positionOf high low sub half).getLsbD i =
      if i < 7 then false
      else if i < 8 then half.getLsbD (i - 7)
      else if i < 16 then sub.getLsbD (i - 8)
      else if i < 24 then low.getLsbD (i - 16)
      else high.getLsbD (i - 24) := by
  change BitVec.getLsbD (0#5 ++ high ++ low ++ sub ++ half ++ 0#7) i = _
  simp only [BitVec.getLsbD_append, BitVec.getLsbD_zero]
  grind

/-- A write of the low integer byte keeps the other parts (R214, R216). -/
theorem withPosL_eq (p : Fixed) (v : Byte) :
    withPosL p v = positionOf (p.extractLsb' 24 3) v (p.extractLsb' 8 8) (p.extractLsb' 7 1) := by
  refine BitVec.eq_of_getLsbD_eq fun i hi => ?_
  rw [positionOf_getLsbD]
  interval_cases i <;> simp [withPosL]

/-- A write of the high byte replaces the high integer bits and the fraction's lowest bit (R215, R217). -/
theorem withPosH_eq (p : Fixed) (v : Byte) :
    withPosH p v = positionOf (v.extractLsb' 0 3) (p.extractLsb' 16 8) (p.extractLsb' 8 8) (v.extractLsb' 7 1) := by
  refine BitVec.eq_of_getLsbD_eq fun i hi => ?_
  rw [positionOf_getLsbD]
  interval_cases i <;> simp [withPosH]

/-- A write of the fraction byte keeps the other parts (R218, R219). -/
theorem withPosS_eq (p : Fixed) (v : Byte) :
    withPosS p v = positionOf (p.extractLsb' 24 3) (p.extractLsb' 16 8) v (p.extractLsb' 7 1) := by
  refine BitVec.eq_of_getLsbD_eq fun i hi => ?_
  rw [positionOf_getLsbD]
  interval_cases i <;> simp [withPosS]

theorem withPosL_toNat (p : Fixed) (v : Byte) :
    (withPosL p v).toNat = p.toNat / 2 ^ 24 % 8 * 2 ^ 24 + v.toNat * 2 ^ 16 + p.toNat / 2 ^ 7 % 512 * 2 ^ 7 := by
  rw [withPosL_eq, positionOf_toNat]
  simp only [toNat_extractLsb'_eq]
  omega

theorem withPosH_toNat (p : Fixed) (v : Byte) :
    (withPosH p v).toNat =
      v.toNat % 8 * 2 ^ 24 + p.toNat / 2 ^ 8 % 65536 * 2 ^ 8 + v.toNat / 128 * 2 ^ 7 := by
  have hbyte := v.isLt
  rw [withPosH_eq, positionOf_toNat]
  simp only [toNat_extractLsb'_eq]
  omega

theorem withPosS_toNat (p : Fixed) (v : Byte) :
    (withPosS p v).toNat = p.toNat / 2 ^ 16 % 2048 * 2 ^ 16 + v.toNat * 2 ^ 8 + p.toNat / 2 ^ 7 % 2 * 2 ^ 7 := by
  rw [withPosS_eq, positionOf_toNat]
  simp only [toNat_extractLsb'_eq]
  omega

/-- Settles O43: the new position is determined by its number, whichever of the two positions is written. -/
theorem positionRegisters : Obligations.PositionRegisters := by
  intro s v old low high sub hlow hhigh hsub
  have lowOf {p : Fixed} (hp : p.toNat = old) : withPosL p v = low :=
    BitVec.eq_of_toNat_eq (by rw [withPosL_toNat, hp, hlow])
  have highOf {p : Fixed} (hp : p.toNat = old) : withPosH p v = high :=
    BitVec.eq_of_toNat_eq (by rw [withPosH_toNat, hp, hhigh])
  have subOf {p : Fixed} (hp : p.toNat = old) : withPosS p v = sub :=
    BitVec.eq_of_toNat_eq (by rw [withPosS_toNat, hp, hsub])
  constructor
  · intro hold
    rw [← lowOf hold, ← highOf hold, ← subOf hold]
    exact ⟨rfl, rfl, rfl⟩
  · intro hold
    rw [← lowOf hold, ← highOf hold, ← subOf hold]
    exact ⟨rfl, rfl, rfl⟩

/-! ## The multiplier and the accumulator (O33) -/

/-- A product of two 16-bit numbers fits in 32 bits, so it is exact (R251). -/
theorem signExtend_mul_toInt (a b : BitVec 16) : (a.signExtend 32 * b.signExtend 32).toInt = a.toInt * b.toInt := by
  have hlow : -2 ^ (16 * 2 - 2) ≤ a.toInt * b.toInt := BitVec.le_toInt_mul_toInt
  have hhigh : a.toInt * b.toInt ≤ 2 ^ (16 * 2 - 2) := BitVec.toInt_mul_toInt_le
  rw [BitVec.toInt_mul, BitVec.toInt_signExtend_of_le (by decide), BitVec.toInt_signExtend_of_le (by decide)]
  exact Int.bmod_eq_of_le (by omega) (by omega)

theorem product_toInt (s : State) : (product s).toInt = operandA s * operandB s := signExtend_mul_toInt _ _

theorem accumulated_eq (sub : Bool) (s : State) : accumulated sub s = accumulatedValue sub s := by
  rw [accumulated, accumulatedValue, ← product_toInt, BitVec.ofInt_toInt]

/-- The cache indices, then one accumulation when bit 6 is set, then the reset when bit 7 is (R206). -/
theorem loadMult_eq (v : Byte) (s : State) :
    loadMult v s = s.setFx
      { s.fx with
        cByte := BitVec.ofNat 2 (v.toNat / 4)
        cNib := decide (v.toNat / 2 % 2 = 1)
        acc :=
          if 128 ≤ v.toNat then 0
          else if 64 ≤ v.toNat then accumulatedValue (decide (v.toNat / 32 % 2 = 1)) s
          else s.fx.acc } := by
  have index : v.extractLsb' 2 2 = BitVec.ofNat 2 (v.toNat / 4) := extractLsb'_eq_ofNat v 2 2
  have acc : (if v.getLsbD 7 then 0 else if v.getLsbD 6 then accumulated (v.getLsbD 5) s else s.fx.acc) =
      if 128 ≤ v.toNat then 0
      else if 64 ≤ v.toNat then accumulatedValue (decide (v.toNat / 32 % 2 = 1)) s
      else s.fx.acc := by
    simp only [getLsbD_seven, decide_eq_true_eq]
    split
    · rfl
    · next h7 =>
      have add : (v.getLsbD 6 = true) = (64 ≤ v.toNat) := by
        rw [getLsbD_eq_decide, decide_eq_true_eq]
        exact propext (by omega)
      simp only [add, getLsbD_eq_decide v 5, accumulated_eq]
      rfl
  rw [loadMult, index, acc, getLsbD_eq_decide v 1]
  rfl

/-- In the bank of the accumulator the debug read of slot `k` is the read of slot 24 + `k`, which answers with the
version string. -/
theorem slotRead_accumulatorBank {s : State} (hbank : s.dcsel = 6) (k : BitVec 2) :
    slotRead (undefinedSlot s.dcsel k) s = versionByte k s := by
  have version : ∀ k : BitVec 2, AnswersVersion (undefinedSlot 6 k) := by decide
  rw [slotRead_version s (hbank ▸ version k), undefinedSlot_index]

theorem accumulate_eq (s : State) :
    accumulate s = s.setFx { s.fx with acc := accumulatedValue (s.comp[11].getLsbD 5) s } := by
  rw [accumulate, accumulated_eq]
  rfl

/-- A read of an accumulator slot answers its version byte from the state before its effect. -/
theorem answerByte_version_after (s t : State) (slot : BitVec 8) (hslot : AnswersVersion slot) :
    answerByte (slotRead slot s) t = answerByte (versionByte (slot.extractLsb' 0 2) s) t :=
  congrArg (answerByte · t) (slotRead_version s hslot)

/-- Settles O33: the effect of each of the three operations, the byte the two reads answer, and the product. -/
theorem accumulatorOperations : Obligations.AccumulatorOperations := by
  intro s v
  refine ⟨?_, ?_, ?_, fun hbank => ⟨?_, ?_⟩, product_toInt s, fun hcache => ?_, fun hcache => ?_⟩
  · exact congrArg answerNothing (loadMult_eq v (storeSlot 11 v s))
  · exact answerByte_version_after s (clearAcc s) 24 (by decide)
  · exact (congrArg (answerByte (slotRead 25 s)) (accumulate_eq s)).trans
      (answerByte_version_after s _ 25 (by decide))
  · exact congrArg (answerByte · s) (slotRead_accumulatorBank hbank 0)
  · exact congrArg (answerByte · s) (slotRead_accumulatorBank hbank 1)
  · rw [product, hcache]
    decide
  · rw [product, hcache]
    decide

/-! ## The span length (O28) -/

/-- The clamped difference of the floors, as a number (R237). -/
theorem spanLength_toNat (s : State) : (spanLength s.fx.xPos s.fx.yPos).toNat = spanValue s := by
  unfold spanLength spanValue fixedFloor
  generalize s.fx.yPos.toInt / 65536 - s.fx.xPos.toInt / 65536 = raw
  dsimp only
  split
  · rw [show raw.toNat = 0 by omega]
    rfl
  · split
    · rw [Nat.min_eq_right (by omega)]
      rfl
    · rw [BitVec.toNat_ofInt]
      omega

theorem toNat_ofBool_topBit (p : Prop) [Decidable p] :
    (BitVec.ofBool (decide p)).toNat * 128 = if p then 128 else 0 := by
  split <;> simp [*]

theorem polyFillL_mode4_toNat (s : State) :
    (polyFillL true s.fx.xPos s.fx.yPos).toNat =
      (if 8 ≤ spanValue s then 128 else 0) + s.fx.xPos.toNat / 65536 % 4 * 32 +
        s.fx.xPos.toNat / 32768 % 2 * 16 + spanValue s % 8 * 2 := by
  rw [← toNat_ofBool_topBit]
  simp only [polyFillL, if_true, toNat_append_eq, toNat_extractLsb'_eq, spanLength_toNat, BitVec.toNat_ofNat]
  omega

theorem polyFillL_mode8_toNat (s : State) :
    (polyFillL false s.fx.xPos s.fx.yPos).toNat =
      (if 16 ≤ spanValue s then 128 else 0) + s.fx.xPos.toNat / 65536 % 4 * 32 + spanValue s % 16 * 2 := by
  have layout : polyFillL false s.fx.xPos s.fx.yPos =
      BitVec.ofBool (decide (16 ≤ (spanLength s.fx.xPos s.fx.yPos).toNat)) ++ s.fx.xPos.extractLsb' 16 2 ++
        (spanLength s.fx.xPos s.fx.yPos).extractLsb' 0 4 ++ 0#1 := rfl
  rw [← toNat_ofBool_topBit, layout]
  simp only [toNat_append_eq, toNat_extractLsb'_eq, spanLength_toNat, BitVec.toNat_ofNat]
  omega

/-- Each mode's byte has its own layout (R222). -/
theorem polyFillL_toNat (s : State) :
    (polyFillL s.mode4 s.fx.xPos s.fx.yPos).toNat =
      if s.mode4 then
        (if 8 ≤ spanValue s then 128 else 0) + s.fx.xPos.toNat / 65536 % 4 * 32 +
          s.fx.xPos.toNat / 32768 % 2 * 16 + spanValue s % 8 * 2
      else (if 16 ≤ spanValue s then 128 else 0) + s.fx.xPos.toNat / 65536 % 4 * 32 + spanValue s % 16 * 2 := by
  cases s.mode4 with
  | true => exact polyFillL_mode4_toNat s
  | false => exact polyFillL_mode8_toNat s

theorem polyFillH_toNat (s : State) : (polyFillH s.fx.xPos s.fx.yPos).toNat = spanValue s / 8 % 128 * 2 := by
  simp only [polyFillH, toNat_append_eq, toNat_extractLsb'_eq, spanLength_toNat]
  rfl

/-- In polygon mode a read is coupled (R236). -/
theorem couple_polygon_read (p : PortId) {s : State} (h : s.a1Mode = 2) : couple p false s = couplePolygon p s := by
  unfold couple
  rw [h]
  rfl

/-- A read of port 0 in polygon mode steps both edges by their increments (R236). -/
theorem exec_rdData0_polygon {s : State} (hmode : s.a1Mode = 2) :
    ∃ t, exec .rdData0 s = .next t ∧ t.fx.xPos = s.fx.xPos + s.fx.xInc ∧ t.fx.yPos = s.fx.yPos + s.fx.yInc := by
  have coupled : portAdvance .port0 false s = couplePolygon .port0 (ownAdvance .port0 s) :=
    couple_polygon_read .port0 ((ownAdvance_a1Mode .port0 s).trans hmode)
  obtain ⟨hx, hy, -⟩ := finish_frame .read .port0 s (portAdvance .port0 false s)
  rw [coupled, couplePolygon_fx, if_pos rfl, ownAdvance_fx] at hx hy
  have answered := exec_access .read .port0 s (fun _ h => absurd h (by decide))
  rw [DataAccess.isWrite, coupled] at answered
  exact ⟨_, answered, hx, hy⟩

/-- Adding 1.0 to a position that does not overflow adds 65536 to its number. -/
theorem toInt_add_one {y : Fixed} (h : y.toInt + 65536 < 2147483648) : (y + 0x10000#32).toInt = y.toInt + 65536 := by
  have hlow := BitVec.le_toInt y
  have one : (0x10000#32).toInt = 65536 := by decide
  rw [BitVec.toInt_add, one]
  exact Int.bmod_eq_of_le (by omega) (by omega)

/-- Settles O28: the span length as a number, and an edge that moves right by one pixel under one that stays. -/
theorem spanLengthHolds : Obligations.SpanLength := by
  constructor
  · rintro s _ rfl
    constructor
    · exact congrArg (answerByte · s) (eq_ofNat_of_toNat_eq (polyFillL_toNat s))
    · exact congrArg (answerByte · s) (eq_ofNat_of_toNat_eq (polyFillH_toNat s))
  · intro s hmode hleft hright horder hfits
    obtain ⟨t, hexec, hx, hy⟩ := exec_rdData0_polygon hmode
    refine ⟨t, hexec, ?_⟩
    have stays : t.fx.xPos = s.fx.xPos := by rw [hx, hleft]; exact BitVec.add_zero _
    have moves : t.fx.yPos = s.fx.yPos + 0x10000#32 := by rw [hy, hright]; rfl
    rw [spanValue, spanValue, stays, moves, toInt_add_one hfits]
    omega

end Sys2Proof.Machine
end

section
/-! Proofs of the FX engine family (spec/43_fx_engine.md): the accumulator (O11), and what a data read (O19) and a data
write (O20) can do in every addressing mode. -/

namespace Sys2Proof.Machine

/-! ## What leaves the accumulator alone (O11) -/

theorem AdvancesOnly.acc_eq {s t : State} (h : AdvancesOnly s t) : t.fx.acc = s.fx.acc := by rw [h.fx]

theorem StoresOnly.fx_eq {P : VAddr → Prop} {s t : State} (h : StoresOnly P s t) : t.fx = s.fx := by rw [h.rest]

theorem TicksOnly.fx_eq {s t : State} (h : TicksOnly s t) : t.fx = s.fx := by rw [h.rest]

@[simp] theorem reprime_fx (p : PortId) (s : State) : (reprime p s).fx = s.fx := State.setPort_fx s p _

theorem dataRead_acc (p : PortId) (s : State) : (dataRead p s).fx.acc = s.fx.acc := by
  have primed := (primedRead_spec p s).1.acc_eq
  unfold dataRead
  split
  · rw [fillCache_eq]
    exact primed
  · exact primed

theorem dataWrite_fx (p : PortId) (v : Byte) (s : State) : (dataWrite p v s).fx = (portAdvance p true s).fx := by
  rw [dataWrite, reprime_fx, (dataStore_stores _ _ v _).fx_eq]

theorem loadAddrL_acc (v : Byte) (s : State) : (loadAddrL v s).fx.acc = s.fx.acc := by
  rw [loadAddrL_eq]
  dsimp only [State.setFx_fx]
  split <;> rfl

/-- A write of FX_MULT with neither ACCUMULATE nor RESET leaves the accumulator (R206). -/
theorem loadMult_acc_of_lt {v : Byte} (hv : v.toNat < 64) (s : State) : (loadMult v s).fx.acc = s.fx.acc := by
  rw [loadMult_eq]
  exact (if_neg (by omega)).trans (if_neg (by omega))

/-- The operations that may change the accumulator (R252). -/
def TouchesAccumulator (i : Instr) : Prop :=
  i = .rdFxAccumReset ∨ i = .rdFxAccum ∨ (∃ v : Byte, i = .wrFxMult v ∧ 64 ≤ v.toNat) ∨ i.resets

/-- The named cases are those that may change the accumulator, where they do not, and those that move a port, store
or tick; each remaining operation replaces other registers alone. -/
theorem exec_acc {i : Instr} {s t : State} (h : exec i s = .next t) (hother : ¬ TouchesAccumulator i) :
    t.fx.acc = s.fx.acc := by
  unfold TouchesAccumulator at hother
  cases i with
  | rdFxAccumReset => simp at hother
  | rdFxAccum => simp at hother
  | hostReset => exact absurd (.inr (.inr (.inr trivial))) hother
  | wrCtrl v =>
    rw [exec_wrCtrl_of_not_resets fun hreset => hother (.inr (.inr (.inr hreset)))] at h
    cases h
    rfl
  | wrFxMult v =>
    cases h
    have hv : v.toNat < 64 := Nat.lt_of_not_le fun hv => hother (.inr (.inr (.inl ⟨v, rfl, hv⟩)))
    exact loadMult_acc_of_lt hv (storeSlot 11 v s)
  | hostStep n =>
    cases h
    exact congrArg Fx.acc (ticks_ticks n s false).fx_eq
  | wrAddrL v =>
    cases h
    exact (congrArg Fx.acc (reprime_fx _ _)).trans (loadAddrL_acc v s)
  | wrAddrM v =>
    cases h
    exact congrArg Fx.acc ((reprime_fx _ _).trans (State.setPort_fx s _ _))
  | wrAddrH v =>
    cases h
    exact congrArg Fx.acc ((reprime_fx _ _).trans (State.setPort_fx s _ _))
  | rdData0 =>
    cases h
    exact dataRead_acc .port0 s
  | rdData1 =>
    cases h
    exact dataRead_acc .port1 s
  | wrData0 v =>
    cases h
    exact (congrArg Fx.acc (dataWrite_fx .port0 v s)).trans (portAdvance_advances .port0 true s).acc_eq
  | wrData1 v =>
    cases h
    exact (congrArg Fx.acc (dataWrite_fx .port1 v s)).trans (portAdvance_advances .port1 true s).acc_eq
  | _ =>
    cases h
    rfl

/-- Settles O11, by what every other operation leaves of the accumulator. -/
theorem accumulatorChangesOnlyWhereTheSpecSays : Obligations.AccumulatorChangesOnlyWhereTheSpecSays := by
  intro i s t h hchanged
  by_contra hother
  exact hchanged (exec_acc h hother)

/-! ## The advance in each addressing mode -/

theorem a1Mode_cases (s : State) : s.a1Mode = 0 ∨ s.a1Mode = 1 ∨ s.a1Mode = 2 ∨ s.a1Mode = 3 := kind_cases s.a1Mode

theorem ownAdvance_cfg (p : PortId) (s : State) : (ownAdvance p s).cfg = s.cfg := by
  rw [(ownAdvance_advances p s).rest]

section
variable (p : PortId) {s : State}

/-- Mode 0: the port's own step alone (R234). -/
theorem portAdvance_direct (isWrite : Bool) (h : s.a1Mode = 0) : portAdvance p isWrite s = ownAdvance p s :=
  couple_direct p isWrite _ ((ownAdvance_a1Mode p s).trans h)

/-- A write is coupled in line-draw mode alone (R235, R236, R238). -/
theorem portAdvance_write (h : s.a1Mode ≠ 1) : portAdvance p true s = ownAdvance p s := by
  have hmode := ownAdvance_a1Mode p s
  rcases a1Mode_cases s with h0 | h1 | h2 | h3
  · exact couple_direct p true _ (hmode.trans h0)
  · exact absurd h1 h
  · exact couple_polygon_write p _ (hmode.trans h2)
  · exact couple_affine_other p true _ (hmode.trans h3) (by simp)

/-- A read of port 0 is uncoupled in mode 0 and in affine mode (R234, R238). -/
theorem portAdvance_port0_uncoupled (h : s.a1Mode = 0 ∨ s.a1Mode = 3) :
    portAdvance .port0 false s = ownAdvance .port0 s := by
  have hmode := ownAdvance_a1Mode .port0 s
  rcases h with h0 | h3
  · exact couple_direct .port0 false _ (hmode.trans h0)
  · exact couple_affine_other .port0 false _ (hmode.trans h3) (by simp)

theorem portAdvance_polygon_read (h : s.a1Mode = 2) : portAdvance p false s = couplePolygon p (ownAdvance p s) :=
  couple_polygon_read p ((ownAdvance_a1Mode p s).trans h)

/-- A read of port 1 in affine mode steps both positions (R238). -/
theorem portAdvance_affine_read (h : s.a1Mode = 3) :
    portAdvance .port1 false s = coupleAffine (ownAdvance .port1 s) := by
  unfold portAdvance couple
  rw [ownAdvance_a1Mode, h]
  rfl

theorem portAdvance_fx_direct (isWrite : Bool) (h : s.a1Mode = 0) : (portAdvance p isWrite s).fx = s.fx := by
  rw [portAdvance_direct p isWrite h, ownAdvance_fx]

theorem portAdvance_fx_line (isWrite : Bool) (h : s.a1Mode = 1) :
    (portAdvance p isWrite s).fx =
      { s.fx with xPos := if p = s.cfg.lineStepPort then s.fx.xPos + s.fx.xInc else s.fx.xPos } := by
  have hmode := (ownAdvance_a1Mode p s).trans h
  unfold portAdvance
  by_cases hp : p = s.cfg.lineStepPort
  · rw [couple_line_stepping p isWrite _ hmode (by rw [ownAdvance_cfg, hp]), coupleLine_fx, ownAdvance_fx, if_pos hp]
  · rw [couple_line_other p isWrite _ hmode (by rw [ownAdvance_cfg]; exact hp), ownAdvance_fx, if_neg hp]

theorem portAdvance_fx_polygon_read (h : s.a1Mode = 2) :
    (portAdvance p false s).fx =
      if p = .port0 then
        { s.fx with
          xPos := s.fx.xPos + s.fx.xInc
          yPos := s.fx.yPos + s.fx.yInc
          cByte := if s.cacheCyc ∧ !s.cacheFill then s.fx.cByte + 1 else s.fx.cByte }
      else s.fx := by
  have hcomp := (ownAdvance_advances p s).comp_eq
  have hcycling : (ownAdvance p s).cacheCyc = s.cacheCyc := by simp only [State.cacheCyc, hcomp]
  have hfilling : (ownAdvance p s).cacheFill = s.cacheFill := by simp only [State.cacheFill, hcomp]
  rw [portAdvance_polygon_read p h, couplePolygon_fx, ownAdvance_fx, hcycling, hfilling]

theorem portAdvance_fx_affine_read (h : s.a1Mode = 3) :
    (portAdvance p false s).fx =
      if p = .port1 then { s.fx with xPos := s.fx.xPos + s.fx.xInc, yPos := s.fx.yPos + s.fx.yInc } else s.fx := by
  cases p with
  | port0 => rw [portAdvance_port0_uncoupled (.inr h), ownAdvance_fx, if_neg (by decide)]
  | port1 =>
    rw [portAdvance_affine_read h, coupleAffine, State.setFx_fx, ownAdvance_fx]
    rfl

/-- A write steps x on the stepping port in line-draw mode, and nothing else of the FX registers. -/
theorem portAdvance_fx_write :
    (portAdvance p true s).fx =
      { s.fx with
        xPos := if s.a1Mode = 1 ∧ p = s.cfg.lineStepPort then s.fx.xPos + s.fx.xInc else s.fx.xPos } := by
  by_cases h : s.a1Mode = 1
  · simp only [portAdvance_fx_line p true h, h, true_and]
  · simp only [portAdvance_write p h, ownAdvance_fx, h, false_and, if_false]

end

/-! ## The data read (O19) -/

theorem affinePrefetch_fx (s : State) : (affinePrefetch s).fx = s.fx := rfl

/-- Before the cache fill a data read leaves the FX registers where the advance has them. -/
theorem primedRead_fx (p : PortId) (s : State) : (primedRead p s).fx = (portAdvance p false s).fx := by
  unfold primedRead
  dsimp only
  split
  · exact affinePrefetch_fx _
  · exact reprime_fx p _

/-- The cache fill touches the FX registers alone. -/
theorem dataRead_eq_setFx (p : PortId) (s : State) : dataRead p s = (primedRead p s).setFx (dataRead p s).fx := by
  unfold dataRead
  split
  · rw [fillCache_eq]
    rfl
  · rfl

theorem dataRead_port (p q : PortId) (s : State) : (dataRead p s).port q = (primedRead p s).port q := by
  rw [dataRead_eq_setFx, State.setFx_port]

/-- The cache fill leaves the positions. -/
theorem dataRead_fx (p : PortId) (s : State) :
    (dataRead p s).fx = { (portAdvance p false s).fx with
      cache := (dataRead p s).fx.cache
      cByte := (dataRead p s).fx.cByte
      cNib := (dataRead p s).fx.cNib } := by
  rw [← primedRead_fx]
  unfold dataRead
  split
  · rw [fillCache_eq]
    rfl
  · rfl

theorem dataRead_fx_of_unfilled (p : PortId) {s : State} (h : s.cacheFill = false) :
    (dataRead p s).fx = (portAdvance p false s).fx := by
  rw [dataRead, if_neg (by simp [h]), primedRead_fx]

theorem primedRead_port1_port0 (s : State) : (primedRead .port1 s).port0 = s.port0 := by
  have advanced := portAdvance_port0 false s
  unfold primedRead
  dsimp only
  split <;> exact advanced

theorem primedRead_port0 (s : State) : primedRead .port0 s = reprime .port0 (portAdvance .port0 false s) := by
  unfold primedRead
  exact if_neg (by simp)

/-- Uncoupled, a read of port 0 leaves port 1. -/
theorem dataRead_port0_port1 {s : State} (h : s.a1Mode = 0 ∨ s.a1Mode = 3) : (dataRead .port0 s).port1 = s.port1 := by
  rw [← State.port_port1, dataRead_port, primedRead_port0, portAdvance_port0_uncoupled h]
  exact ownAdvance_port_other (p := .port0) (q := .port1) (by decide) s

/-- The index and the bytes of the FX cache when nothing fills it: only a cycling port-0 read in polygon mode moves
the byte index (R236). -/
theorem dataRead_cache_of_unfilled (p : PortId) {s : State} (h : s.cacheFill = false) :
    (dataRead p s).fx.cache = s.fx.cache ∧ (dataRead p s).fx.cNib = s.fx.cNib ∧
      (dataRead p s).fx.cByte =
        if s.a1Mode = 2 ∧ p = .port0 ∧ s.cacheCyc = true then s.fx.cByte + 1 else s.fx.cByte := by
  rw [dataRead_fx_of_unfilled p h]
  rcases a1Mode_cases s with hm | hm | hm | hm
  · simp [portAdvance_fx_direct p false hm, hm]
  · simp [portAdvance_fx_line p false hm, hm]
  · rw [portAdvance_fx_polygon_read p hm]
    cases p <;> simp [hm, h]
  · rw [portAdvance_fx_affine_read p hm]
    cases p <;> simp [hm]

/-- The ports after a data read: the increments stay, and the read port's cache holds the byte at its new address. -/
theorem dataRead_ports (p : PortId) (s : State) :
    ((dataRead p s).port p).rdData = s.readByte ((dataRead p s).port p).addr ∧
      ∀ q, ((dataRead p s).port q).inc = (s.port q).inc ∧ ((dataRead p s).port q).nibInc = (s.port q).nibInc := by
  obtain ⟨advances, hdata⟩ := primedRead_spec p s
  rw [dataRead_port]
  refine ⟨hdata, fun q => ?_⟩
  rw [dataRead_port]
  cases q with
  | port0 => exact ⟨advances.port0_inc, advances.port0_nibInc⟩
  | port1 => exact ⟨advances.port1_inc, advances.port1_nibInc⟩

/-- Outside the ports and the FX registers a data read changes nothing. -/
theorem dataRead_frame (p : PortId) (s : State) :
    dataRead p s = { s with port0 := (dataRead p s).port0, port1 := (dataRead p s).port1, fx := (dataRead p s).fx } := by
  rw [dataRead_eq_setFx, (primedRead_spec p s).1.rest]
  rfl

/-- Settles O19: the frame, the ports, the positions by mode, and the FX cache. -/
theorem dataReadsInEveryMode : Obligations.DataReadsInEveryMode := by
  intro p s
  obtain ⟨hdata, hports⟩ := dataRead_ports p s
  have hfx := dataRead_fx p s
  have hx : (dataRead p s).fx.xPos = (portAdvance p false s).fx.xPos := by rw [hfx]
  have hy : (dataRead p s).fx.yPos = (portAdvance p false s).fx.yPos := by rw [hfx]
  refine ⟨_, exec_readOp p s, ?_, ?_, ?_, ?_, ?_, ?_, fun hm => ?_, fun hm => ?_, fun hm => ?_, fun hm => ?_, ?_⟩
  · rw [dataRead_frame]
    rfl
  · simpa using hdata
  · simpa using hports
  · rintro rfl
    exact (dataRead_port .port1 .port0 s).trans (primedRead_port1_port0 s)
  · rintro rfl hm
    exact dataRead_port0_port1 hm
  · rw [State.returning_fx, hfx, (portAdvance_advances p false s).fx]
  · rw [State.returning_fx, hx, hy, portAdvance_fx_direct p false hm]
    exact ⟨rfl, rfl⟩
  · rw [State.returning_fx, hx, hy, portAdvance_fx_line p false hm]
    exact ⟨rfl, rfl⟩
  · rw [State.returning_fx, hx, hy, portAdvance_fx_polygon_read p hm]
    cases p <;> exact ⟨rfl, rfl⟩
  · rw [State.returning_fx, hx, hy, portAdvance_fx_affine_read p hm]
    cases p <;> exact ⟨rfl, rfl⟩
  · exact dataRead_cache_of_unfilled p

/-! ## The data write (O20) -/

theorem portAdvance_cacheWr (p : PortId) (isWrite : Bool) (s : State) :
    (portAdvance p isWrite s).cacheWr = s.cacheWr := by
  simp only [State.cacheWr, (portAdvance_advances p isWrite s).comp_eq]

theorem dataWrite_readByte_of_outside (p : PortId) (v : Byte) (s : State) {b : VAddr}
    (h : if s.cacheWr then b.toNat / 4 ≠ (s.port p).addr.toNat / 4 else b ≠ (s.port p).addr) :
    (dataWrite p v s).readByte b = s.readByte b := by
  rw [dataWrite, reprime_readByte, (dataStore_stores _ _ v _).outside b, (portAdvance_advances p true s).readByte_eq]
  rw [portAdvance_cacheWr]
  by_cases hw : s.cacheWr = true
  · simpa [hw] using h
  · simpa [hw] using h

/-- After the advance a data write replaces the written port's read cache, and nothing else in the ports. -/
theorem dataWrite_port (p q : PortId) (v : Byte) (s : State) :
    (dataWrite p v s).port q =
      { (portAdvance p true s).port q with rdData := ((dataWrite p v s).port q).rdData } :=
  finish_port (.write v) p q s (portAdvance p true s)

theorem dataWrite_port_other {p q : PortId} (h : q ≠ p) (v : Byte) (s : State) :
    (dataWrite p v s).port q = (portAdvance p true s).port q :=
  finish_port_other h (.write v) s (portAdvance p true s)

/-- A write leaves the other port, but for port 1 in line-draw mode (R235). -/
theorem dataWrite_other_port {p q : PortId} (hq : q ≠ p) (v : Byte) {s : State} (h : p = .port1 ∨ s.a1Mode ≠ 1) :
    (dataWrite p v s).port q = s.port q := by
  rw [dataWrite_port_other hq]
  rcases h with rfl | hm
  · cases q with
    | port0 => exact portAdvance_port0 true s
    | port1 => exact absurd rfl hq
  · rw [portAdvance_write p hm, ownAdvance_port_other hq]

theorem dataWrite_rdData (p : PortId) (v : Byte) (s : State) :
    ((dataWrite p v s).port p).rdData = (dataWrite p v s).readByte ((dataWrite p v s).port p).addr := by
  unfold dataWrite
  rw [reprime_readByte]
  unfold reprime
  rw [State.setPort_port_same]

theorem dataWrite_port_incs (p q : PortId) (v : Byte) (s : State) :
    ((dataWrite p v s).port q).inc = (s.port q).inc ∧ ((dataWrite p v s).port q).nibInc = (s.port q).nibInc := by
  have advances := portAdvance_advances p true s
  rw [dataWrite_port]
  cases q with
  | port0 => exact ⟨advances.port0_inc, advances.port0_nibInc⟩
  | port1 => exact ⟨advances.port1_inc, advances.port1_nibInc⟩

/-- Outside VRAM, the events, the ports and the FX registers a data write changes nothing. -/
theorem dataWrite_frame (p : PortId) (v : Byte) (s : State) :
    dataWrite p v s = { s with
      mem := (dataWrite p v s).mem
      events := (dataWrite p v s).events
      port0 := (dataWrite p v s).port0
      port1 := (dataWrite p v s).port1
      fx := (dataWrite p v s).fx } := by
  unfold dataWrite
  rw [(reprime_advances p _).rest, (dataStore_stores _ _ v _).rest, (portAdvance_advances p true s).rest]

/-- Settles O20: the extent of the store, the frame, the ports, and the x position. -/
theorem dataWritesInEveryMode : Obligations.DataWritesInEveryMode := by
  intro p s v
  have hfx := (dataWrite_fx p v s).trans (portAdvance_fx_write p)
  refine ⟨_, exec_writeOp p v s, ?_, ?_, ?_, ?_, ?_, ?_, ?_, ?_⟩
  · exact fun b hb => dataWrite_readByte_of_outside p v s hb
  · rw [dataWrite_frame]
    rfl
  · simpa using dataWrite_rdData p v s
  · simpa using fun q => dataWrite_port_incs p q v s
  · rintro rfl
    exact dataWrite_other_port (p := .port1) (q := .port0) (by decide) v (.inl rfl)
  · rintro rfl hm
    exact dataWrite_other_port (p := .port0) (q := .port1) (by decide) v (.inr hm)
  · rw [State.returning_fx, hfx]
  · rw [State.returning_fx, hfx]

end Sys2Proof.Machine
end

section
/-! Proofs of the FX engine family: the port's own step with the hop (O24) and the nibble cursor (O25), and the polygon
(O27) and affine (O29) modes against mode 0. -/

namespace Sys2Proof.Machine

/-! ## The port's own step -/

theorem stepOf_eq_zero_iff : ∀ i : BitVec 5, stepOf i = 0 ↔ i.toNat ≤ 1 := by decide

theorem hopStep_port0 (d : Int) (a : VAddr) (s : State) : hopStep .port0 d a s = d :=
  if_neg fun h => absurd h.1 (by decide)

theorem hopStep_of_hop16_off (p : PortId) (d : Int) (a : VAddr) {s : State} (h : s.hop16 = false) :
    hopStep p d a s = d :=
  if_neg fun hop => absurd (h.symm.trans hop.2) (by decide)

theorem hopStep_zero (p : PortId) (a : VAddr) (s : State) : hopStep p 0 a s = 0 := by
  unfold hopStep
  split
  · rfl
  · rfl

/-- The alternation of the 16-bit hop by the alignment of the address (R232). -/
theorem hopStep_port1_of_hop16 (d : Int) (a : VAddr) {s : State} (h : s.hop16 = true) :
    hopStep .port1 d a s =
      if d = 4 then (if a.toNat % 4 = s.fx.hopAlign.toNat then 1 else 3)
      else if d = 320 then (if a.toNat % 4 = s.fx.hopAlign.toNat then 1 else 319)
      else d := by
  have aligned : (a.extractLsb' 0 2 = s.fx.hopAlign) = (a.toNat % 4 = s.fx.hopAlign.toNat) := by
    rw [← BitVec.toNat_inj, toNat_extractLsb'_eq, pow_zero, Nat.div_one]
    rfl
  simp only [hopStep, h, aligned, and_self, if_true]

section
variable {p : PortId} {s : State}

theorem nibbleStep_of_idle (h : nibbleIdle s p) : nibbleStep p s = s := by
  refine if_neg fun ⟨hmode4, hauto, hstep⟩ => ?_
  rw [stepOf_eq_zero_iff] at hstep
  rcases h with hoff | hoff | hoff
  · simp [hoff] at hmode4
  · simp [hoff] at hauto
  · omega

/-- With the nibble cursor at rest a port's own step moves its address by its hop step alone. -/
theorem ownAdvance_of_nibbleIdle (h : nibbleIdle s p) :
    ((ownAdvance p s).port p).nib = (s.port p).nib ∧
      ((ownAdvance p s).port p).addr = addrPlus (s.port p).addr (hopStep p (portStep p s) (s.port p).addr s) := by
  rw [ownAdvance, nibbleStep_of_idle h, movePort, State.setPort_port_same]
  exact ⟨rfl, rfl⟩

/-- With step 0 a port's own step is its nibble step: nothing hops and nothing moves. -/
theorem ownAdvance_of_still (h : portStep p s = 0) : ownAdvance p s = nibbleStep p s := by
  have still : addrPlus ((nibbleStep p s).port p).addr 0 = ((nibbleStep p s).port p).addr := BitVec.add_zero _
  rw [ownAdvance, h, hopStep_zero, movePort, still]
  exact State.setPort_self _ p

/-- Acting on index 0 the cursor goes forward, into the next byte from a low nibble (R233). -/
theorem ownAdvance_nibble_forward (hmode4 : s.mode4 = true) (hauto : (s.port p).nibInc = true)
    (hinc : (s.port p).inc = 0) :
    ((ownAdvance p s).port p).nib = !(s.port p).nib ∧
      ((ownAdvance p s).port p).addr = if (s.port p).nib then (s.port p).addr + 1 else (s.port p).addr := by
  have still : stepOf (s.port p).inc = 0 := by rw [hinc]; rfl
  rw [ownAdvance_of_still still, nibbleStep, if_pos ⟨hmode4, hauto, still⟩]
  cases hnib : (s.port p).nib <;> simp [hinc]

/-- Acting on index 1 the cursor goes backward, into the byte before from a high nibble (R233). -/
theorem ownAdvance_nibble_backward (hmode4 : s.mode4 = true) (hauto : (s.port p).nibInc = true)
    (hinc : (s.port p).inc = 1) :
    ((ownAdvance p s).port p).nib = !(s.port p).nib ∧
      ((ownAdvance p s).port p).addr = if (s.port p).nib then (s.port p).addr else (s.port p).addr - 1 := by
  have still : stepOf (s.port p).inc = 0 := by rw [hinc]; rfl
  rw [ownAdvance_of_still still, nibbleStep, if_pos ⟨hmode4, hauto, still⟩]
  cases hnib : (s.port p).nib <;> simp [hinc]

/-- In mode 0, and on port 0 in every mode, an access leaves its port where the port's own step takes it. -/
theorem exec_access_own (access : DataAccess) (h : s.a1Mode = 0 ∨ p = .port0) :
    ∃ t, exec (access.op p) s = .next t ∧ (t.port p).addr = ((ownAdvance p s).port p).addr ∧
      (t.port p).nib = ((ownAdvance p s).port p).nib := by
  have advanced : (portAdvance p access.isWrite s).port p = (ownAdvance p s).port p := by
    rcases h with hmode | rfl
    · rw [portAdvance_direct p _ hmode]
    · exact couple_port0 .port0 _ _
  refine ⟨_, exec_access access p s fun _ hp hmode => ?_, ?_, ?_⟩
  · rcases h with h0 | h0
    · exact absurd (h0.symm.trans hmode) (by decide)
    · exact absurd (h0.symm.trans hp) (by decide)
  · rw [State.returning_port, finish_port_addr, advanced]
  · rw [State.returning_port, finish_port_nib, advanced]

end

/-- Settles O24: the own step with the cursor at rest is the hop step, and port 0 does not hop. -/
theorem hopSteps : Obligations.HopSteps := by
  refine fun s v i hhop => ⟨fun hi hmode hidle => ?_, fun hi hidle => ?_⟩
  · obtain ⟨access, rfl⟩ := DataAccess.exists_of_op (p := .port1) hi
    obtain ⟨t, hexec, haddr, -⟩ := exec_access_own access (.inl hmode)
    refine ⟨t, hexec, haddr.trans ?_⟩
    rw [(ownAdvance_of_nibbleIdle hidle).2, hopStep_port1_of_hop16 _ _ hhop]
    rfl
  · obtain ⟨access, rfl⟩ := DataAccess.exists_of_op (p := .port0) hi
    obtain ⟨t, hexec, haddr, -⟩ := exec_access_own (s := s) access (.inr rfl)
    refine ⟨t, hexec, haddr.trans ?_⟩
    rw [(ownAdvance_of_nibbleIdle hidle).2, hopStep_port0]
    rfl

/-- Settles O25: the cursor forward, backward, and at rest. -/
theorem nibbleSteps : Obligations.NibbleSteps := by
  intro p s v i hi hmode
  obtain ⟨access, rfl⟩ := DataAccess.exists_of_op hi
  obtain ⟨t, hexec, haddr, hnib⟩ := exec_access_own access hmode
  refine ⟨t, hexec, fun hmode4 hauto hinc => ?_, fun hmode4 hauto hinc => ?_, fun hidle => ?_⟩
  · rw [hnib, haddr]
    exact ownAdvance_nibble_forward hmode4 hauto hinc
  · rw [hnib, haddr]
    exact ownAdvance_nibble_backward hmode4 hauto hinc
  · obtain ⟨hstays, hmoves⟩ := ownAdvance_of_nibbleIdle hidle
    refine ⟨hnib.trans hstays, fun hhop => haddr.trans (hmoves.trans ?_)⟩
    have unhopped : hopStep p (portStep p s) (s.port p).addr s = portStep p s := by
      rcases hhop with hoff | rfl
      · exact hopStep_of_hop16_off p _ _ hoff
      · exact hopStep_port0 _ _ s
    rw [unhopped]
    rfl

/-! ## Polygon mode (O27) -/

theorem couplePolygon_port0 (p : PortId) (s : State) : (couplePolygon p s).port0 = s.port0 := by
  unfold couplePolygon
  split <;> rfl

/-- Port 1 derived: its address is port 0's and the floor of the x position, its cache the byte there (R236). -/
theorem couplePolygon_port1 (p : PortId) (s : State) {a : VAddr}
    (ha : a = addrPlus s.port0.addr (fixedFloor (couplePolygon p s).fx.xPos)) :
    (couplePolygon p s).port1 = { s.port1 with addr := a, rdData := s.readByte a } := by
  subst ha
  unfold couplePolygon
  split <;> rfl

theorem transfer_read_readByte (p : PortId) (src s : State) (a : VAddr) :
    (DataAccess.read.transfer p src s).readByte a = s.readByte a := by
  unfold DataAccess.transfer
  dsimp only
  split
  · rw [fillCache_eq, State.setFx_readByte]
  · rfl

/-- The state after a read in polygon mode. -/
def polygonState (p : PortId) (s : State) : State :=
  (DataAccess.read.finish p s (couplePolygon p (ownAdvance p s))).returning (.byte (s.port p).rdData)

section
variable (p : PortId) (s : State)

theorem exec_read_polygon {s : State} (h : s.a1Mode = 2) : exec p.readOp s = .next (polygonState p s) := by
  have answered := exec_access .read p s fun _ _ => by rw [h]; decide
  rw [DataAccess.isWrite, portAdvance_polygon_read p h] at answered
  exact answered

theorem polygonState_port (q : PortId) :
    (polygonState p s).port q = (DataAccess.read.finish p s (couplePolygon p (ownAdvance p s))).port q :=
  State.returning_port _ _ q

theorem polygonState_port0_addr : (polygonState p s).port0.addr = (ownAdvance p s).port0.addr := by
  rw [← State.port_port0, polygonState_port, finish_port_addr, State.port_port0, couplePolygon_port0]

/-- Port 0 is after a polygon read what it is in mode 0. -/
theorem polygonState_port0 : (polygonState p s).port0 = (DataAccess.read.directState p s).port0 := by
  have bytes := (couplePolygon_advances p (ownAdvance p s)).readByte_eq
  rw [← State.port_port0, ← State.port_port0, polygonState_port, directState_port]
  cases p with
  | port0 =>
    rw [finish_port_self, finish_port_self, transfer_read_readByte, transfer_read_readByte, bytes, State.port_port0,
      couplePolygon_port0]
    rfl
  | port1 =>
    rw [finish_port_other (by decide), finish_port_other (by decide)]
    exact couplePolygon_port0 _ _

/-- Port 1's nibble select is after a polygon read what it is in mode 0. -/
theorem polygonState_port1_nib : (polygonState p s).port1.nib = (ownAdvance p s).port1.nib := by
  rw [← State.port_port1, polygonState_port, finish_port_nib, State.port_port1, couplePolygon_port1 p _ rfl]

theorem polygonState_port1_addr :
    (polygonState p s).port1.addr =
      (polygonState p s).port0.addr + BitVec.ofInt 17 ((polygonState p s).fx.xPos.toInt / 65536) := by
  have hx : (polygonState p s).fx.xPos = (couplePolygon p (ownAdvance p s)).fx.xPos := (finish_frame .read p s _).1
  rw [polygonState_port0_addr, hx, ← State.port_port1, polygonState_port, finish_port_addr, State.port_port1,
    couplePolygon_port1 p _ rfl]
  rfl

/-- Either read refills port 1's cache: the coupling after a read of port 0, the read itself after one of port 1. -/
theorem polygonState_port1_rdData : (polygonState p s).port1.rdData = s.readByte (polygonState p s).port1.addr := by
  have bytes := (ownAdvance_advances p s).readByte_eq
  rw [← State.port_port1, polygonState_port]
  cases p with
  | port0 =>
    rw [finish_port_other (by decide), State.port_port1, couplePolygon_port1 .port0 _ rfl]
    exact bytes _
  | port1 =>
    rw [finish_port_self, transfer_read_readByte, (couplePolygon_advances _ _).readByte_eq, bytes]

end

/-- Uncoupled, and with neither the cursor nor the hop acting, a write moves its port by the step (R231). -/
theorem dataWrite_addr (p : PortId) (v : Byte) {s : State} (hmode : s.a1Mode ≠ 1) (hmode4 : s.mode4 = false)
    (hhop : s.hop16 = false) :
    ((dataWrite p v s).port p).addr = (s.port p).addr + BitVec.ofInt 17 (stepOf (s.port p).inc) := by
  rw [dataWrite_port, portAdvance_write p hmode, ownAdvance_addr p s hmode4, hopStep_of_hop16_off p _ _ hhop]
  rfl

theorem dataWrite_fx_uncoupled (p : PortId) (v : Byte) {s : State} (hmode : s.a1Mode ≠ 1) :
    (dataWrite p v s).fx = s.fx := by
  rw [dataWrite_fx, portAdvance_write p hmode, ownAdvance_fx]

/-- Settles O27: the reads by the polygon state, what they leave by O19, and the writes uncoupled. -/
theorem polygonSpanReads : Obligations.PolygonSpanReads := by
  intro s v hmode
  have write (p : PortId) : actsAsDirect (p.writeOp v) s :=
    actsAsDirect_of_uncoupled (.write v) p s (fun h => nomatch h)
      (couple_polygon_write p _ ((ownAdvance_a1Mode p s).trans hmode))
  have noLine : s.a1Mode ≠ 1 := by rw [hmode]; decide
  refine ⟨write .port0, write .port1, ?_, ?_, ?_, ?_⟩
  · obtain ⟨t, hexec, -, -, -, -, -, -, -, -, hedges, -, hcache⟩ := dataReadsInEveryMode .port0 s
    obtain ⟨hx, hy⟩ := hedges hmode
    obtain rfl : t = polygonState .port0 s :=
      Host.Outcome.next.inj (hexec.symm.trans (exec_read_polygon .port0 hmode))
    have hown : (ownAdvance .port0 s).port1 = s.port1 :=
      ownAdvance_port_other (p := .port0) (q := .port1) (by decide) s
    refine ⟨_, _, hexec, exec_access_direct .read .port0 s, polygonState_port0 .port0 s, ?_, hx, hy, fun hfill => ?_,
      polygonState_port1_addr .port0 s, polygonState_port1_rdData .port0 s⟩
    · rw [polygonState_port1_nib, hown]
    · rw [(hcache hfill).2.2]
      simp only [hmode, true_and]
  · obtain ⟨t, hexec, -, -, -, hport0, -, -, -, -, hedges, -, hcache⟩ := dataReadsInEveryMode .port1 s
    obtain ⟨hx, hy⟩ := hedges hmode
    obtain rfl : t = polygonState .port1 s :=
      Host.Outcome.next.inj (hexec.symm.trans (exec_read_polygon .port1 hmode))
    have hnib : (DataAccess.read.directState .port1 s).port1.nib = (ownAdvance .port1 s).port1.nib := by
      rw [← State.port_port1, directState_port, finish_port_nib, State.port_port1]
    refine ⟨_, _, hexec, exec_access_direct .read .port1 s, hport0 rfl, ?_, hx, hy, fun hfill => ?_, ?_,
      polygonState_port1_rdData .port1 s⟩
    · rw [polygonState_port1_nib, hnib]
    · rw [(hcache hfill).2.2]
      exact if_neg fun h => absurd h.2.1 (by decide)
    · rw [polygonState_port1_addr, hport0 rfl, hx]
      rfl
  · exact ⟨_, exec_writeOp .port0 v s, dataWrite_fx_uncoupled .port0 v noLine,
      dataWrite_other_port (p := .port0) (q := .port1) (by decide) v (.inr noLine)⟩
  · exact ⟨_, exec_writeOp .port1 v s, dataWrite_fx_uncoupled .port1 v noLine,
      dataWrite_other_port (p := .port1) (q := .port0) (by decide) v (.inl rfl), dataWrite_addr .port1 v noLine⟩

/-! ## Affine mode (O29) -/

/-- Clipping, a position inside the map is its own remainder; wrapping, a remainder is inside (R239). -/
theorem affineTile_eq_ite (s : State) (x y : Fixed) {xt yt : Nat}
    (hxt : xt = if s.affClip then x.toNat / 2 ^ 19 % 256 else x.toNat / 2 ^ 19 % 256 % affineSide s)
    (hyt : yt = if s.affClip then y.toNat / 2 ^ 19 % 256 else y.toNat / 2 ^ 19 % 256 % affineSide s) :
    affineTile s x y =
      if affineSide s ≤ xt ∨ affineSide s ≤ yt then 0
      else (s.vram (s.comp[10].toNat / 4 * 2048 + yt * affineSide s + xt)).toNat := by
  unfold affineTile
  dsimp only
  cases hclip : s.affClip with
  | true =>
    simp only [hclip, if_true] at hxt hyt
    rw [← hxt, ← hyt]
    simp only [true_and]
    by_cases hout : affineSide s ≤ xt ∨ affineSide s ≤ yt
    · rw [if_pos hout, if_pos hout]
    · obtain ⟨hx, hy⟩ := not_or.mp hout
      rw [if_neg hout, if_neg hout, Nat.mod_eq_of_lt (Nat.lt_of_not_le hx), Nat.mod_eq_of_lt (Nat.lt_of_not_le hy)]
  | false =>
    simp only [hclip, Bool.false_eq_true, if_false] at hxt hyt
    have hside : 0 < affineSide s := Nat.mul_pos (by decide) (Nat.pow_pos (by decide))
    have hin : ¬(affineSide s ≤ xt ∨ affineSide s ≤ yt) := by
      rw [hxt, hyt, not_or, Nat.not_le, Nat.not_le]
      exact ⟨Nat.mod_lt _ hside, Nat.mod_lt _ hside⟩
    rw [if_neg hin, ← hxt, ← hyt]
    simp

/-- The lookup's address is the texel of the state's own positions. -/
theorem affineAddr_eq (s : State) : affineAddr s = BitVec.ofNat 17 (affineTexel s s.fx.xPos s.fx.yPos) := by
  unfold affineAddr affineTexel
  rw [affineTile_eq_ite s _ _ rfl rfl]
  simp only [affineMapSize_eq, affineBase_eq, toNat_extractLsb'_eq, affineSide]
  split <;> rfl

/-- The texel of two positions is a matter of the composer file and of VRAM. -/
theorem AdvancesOnly.affineTexel_eq {s t : State} (h : AdvancesOnly s t) (x y : Fixed) :
    affineTexel t x y = affineTexel s x y := by
  rw [h.rest]
  rfl

/-- The port after a read of port 1 in affine mode, from the state the advance has led to (R239). -/
theorem dataRead_port1_affine {s : State} (h : s.a1Mode = 3) :
    (dataRead .port1 s).port1 = (affinePrefetch (coupleAffine (ownAdvance .port1 s))).port1 := by
  rw [← State.port_port1, dataRead_port, primedRead, if_pos ⟨rfl, h⟩, portAdvance_affine_read h, State.port_port1]

/-- The advance of a port-1 read in affine mode: both positions stepped, the controls as they were. -/
theorem coupleAffine_ownAdvance (s : State) :
    AdvancesOnly s (coupleAffine (ownAdvance .port1 s)) ∧
      (coupleAffine (ownAdvance .port1 s)).fx.xPos = s.fx.xPos + s.fx.xInc ∧
      (coupleAffine (ownAdvance .port1 s)).fx.yPos = s.fx.yPos + s.fx.yInc ∧
      (coupleAffine (ownAdvance .port1 s)).mode4 = s.mode4 := by
  have advances : AdvancesOnly s (coupleAffine (ownAdvance .port1 s)) :=
    (ownAdvance_advances .port1 s).trans (AdvancesOnly.setFx _ _ _ _)
  refine ⟨advances, ?_, ?_, ?_⟩
  · rw [coupleAffine, State.setFx_fx, ownAdvance_fx]
  · rw [coupleAffine, State.setFx_fx, ownAdvance_fx]
  · simp only [State.mode4, advances.comp_eq]

/-- A read of port 1 in affine mode lands on the texel of the stepped positions (R239). -/
theorem dataRead_port1_texel {s : State} (h : s.a1Mode = 3) :
    (dataRead .port1 s).port1.addr =
        BitVec.ofNat 17 (affineTexel s (s.fx.xPos + s.fx.xInc) (s.fx.yPos + s.fx.yInc)) ∧
      (dataRead .port1 s).port1.nib = if s.mode4 then (s.fx.xPos + s.fx.xInc).getLsbD 16
        else (ownAdvance .port1 s).port1.nib := by
  obtain ⟨advances, hx, hy, hmode4⟩ := coupleAffine_ownAdvance s
  rw [dataRead_port1_affine h]
  constructor
  · rw [← hx, ← hy, ← advances.affineTexel_eq]
    exact affineAddr_eq _
  · rw [← hx, ← hmode4]
    rfl

/-- Settles O29: the texel of the lookup, what the reads leave by O19, and the writes uncoupled. -/
theorem affineReads : Obligations.AffineReads := by
  intro s v hmode
  have own (p : PortId) : (ownAdvance p s).a1Mode = 3 := (ownAdvance_a1Mode p s).trans hmode
  have noLine : s.a1Mode ≠ 1 := by rw [hmode]; decide
  have write (p : PortId) : actsAsDirect (p.writeOp v) s :=
    actsAsDirect_of_uncoupled (.write v) p s (fun h => nomatch h) (couple_affine_other p true _ (own p) (by simp))
  have read0 : actsAsDirect .rdData0 s :=
    actsAsDirect_of_uncoupled .read .port0 s (fun _ h => absurd h (by decide))
      (couple_affine_other .port0 false _ (own .port0) (by simp))
  refine ⟨?_, read0, write .port0, write .port1, ?_, ?_, ?_⟩
  · rintro _ _ rfl rfl
    obtain ⟨t, hexec, -, hdata, -, -, -, -, -, -, -, hsteps, -⟩ := dataReadsInEveryMode .port1 s
    obtain ⟨hx, hy⟩ := hsteps hmode
    obtain ⟨haddr, hnib⟩ := dataRead_port1_texel hmode
    obtain rfl := Host.Outcome.next.inj ((exec_readOp .port1 s).symm.trans hexec)
    refine ⟨_, hexec, hx, hy, haddr, hdata, fun hmode4 => hnib.trans ?_, fun hmode4 => hnib.trans ?_⟩
    · rw [if_pos hmode4]
      exact Nat.testBit_eq_decide_div_mod_eq
    · rw [hmode4]
      exact (ownAdvance_of_nibbleIdle (p := .port1) (.inl hmode4)).1
  · obtain ⟨t, hexec, -, -, -, -, hport1, -, -, -, -, hsteps, -⟩ := dataReadsInEveryMode .port0 s
    obtain ⟨hx, hy⟩ := hsteps hmode
    exact ⟨t, hexec, hx, hy, hport1 rfl (.inr hmode)⟩
  · exact ⟨_, exec_writeOp .port0 v s, dataWrite_fx_uncoupled .port0 v noLine,
      dataWrite_other_port (p := .port0) (q := .port1) (by decide) v (.inr noLine)⟩
  · exact ⟨_, exec_writeOp .port1 v s, dataWrite_fx_uncoupled .port1 v noLine⟩

end Sys2Proof.Machine
end

section
/-! Proofs of the FX engine family: the single-byte store (O30), the cache write (O31) and the cache fill (O32). -/

namespace Sys2Proof.Machine

/-! ## Nibbles of a byte -/

theorem joinNibbles_eq_append (high low : Byte) :
    (high &&& 0xF0) ||| (low &&& 0x0F) = high.extractLsb' 4 4 ++ low.extractLsb' 0 4 := by
  have highMask : ∀ k : Fin 8, (0xF0 : Byte).getLsbD k = decide (4 ≤ k.val) := by decide
  have lowMask : ∀ k : Fin 8, (0x0F : Byte).getLsbD k = decide (k.val < 4) := by decide
  apply BitVec.eq_of_getLsbD_eq
  intro i hi
  rw [BitVec.getLsbD_or, BitVec.getLsbD_and, BitVec.getLsbD_and, highMask ⟨i, hi⟩, lowMask ⟨i, hi⟩,
    BitVec.getLsbD_append, BitVec.getLsbD_extractLsb', BitVec.getLsbD_extractLsb']
  by_cases h : i < 4
  · simp [h, Nat.not_le.mpr h]
  · simp [h, Nat.le_of_not_lt h, show i - 4 < 4 by omega]

theorem joinNibbles_toNat (high low : Byte) :
    ((high &&& 0xF0) ||| (low &&& 0x0F)).toNat = high.toNat / 16 * 16 + low.toNat % 16 := by
  have hhigh := high.isLt
  rw [joinNibbles_eq_append, toNat_append_eq, toNat_extractLsb'_eq, toNat_extractLsb'_eq]
  omega

theorem joinNibbles_eq (high low : Byte) :
    (high &&& 0xF0) ||| (low &&& 0x0F) = BitVec.ofNat 8 (high.toNat / 16 * 16 + low.toNat % 16) :=
  eq_ofNat_of_toNat_eq (joinNibbles_toNat high low)

theorem lowNibble_eq_zero_iff (b : Byte) : b &&& 0x0F = 0 ↔ b.toNat % 16 = 0 := by
  revert b
  decide

theorem highNibble_eq_zero_iff (b : Byte) : b &&& 0xF0 = 0 ↔ b.toNat / 16 = 0 := by
  revert b
  decide

theorem byte_eq_zero_iff (b : Byte) : b = 0 ↔ b.toNat = 0 := BitVec.toNat_inj.symm

/-! ## The single-byte store (O30) -/

section
variable {s : State} {nib : Bool} {b : Byte}

/-- The single-byte store by arithmetic on its bytes. -/
theorem fxStore_eq (a : VAddr) :
    fxStore a nib b s =
      if s.mode4 then
        if nib then
          if s.transp ∧ b.toNat % 16 = 0 then s
          else memWrite a (BitVec.ofNat 8 ((s.readByte a).toNat / 16 * 16 + b.toNat % 16)) s
        else
          if s.transp ∧ b.toNat / 16 = 0 then s
          else memWrite a (BitVec.ofNat 8 (b.toNat / 16 * 16 + (s.readByte a).toNat % 16)) s
      else if s.transp ∧ b.toNat = 0 then s else memWrite a b s := by
  unfold fxStore
  simp only [joinNibbles_eq, lowNibble_eq_zero_iff, highNibble_eq_zero_iff]
  simp only [byte_eq_zero_iff]

theorem fxStore_of_skipped (a : VAddr) (h : storeSkipped s nib b) : fxStore a nib b s = s := by
  obtain ⟨htransp, hzero⟩ := h
  rw [fxStore_eq]
  cases hmode4 : s.mode4 <;> cases nib <;>
    · simp only [hmode4, Bool.false_eq_true, if_true, if_false] at hzero ⊢
      exact if_pos ⟨htransp, hzero⟩

theorem storedByte_of_skipped (old : Byte) (h : storeSkipped s nib b) : storedByte s nib old b = old := by
  obtain ⟨htransp, hzero⟩ := h
  unfold storedByte
  cases hmode4 : s.mode4 <;> cases nib <;>
    · simp only [hmode4, Bool.false_eq_true, if_true, if_false] at hzero ⊢
      exact if_pos ⟨htransp, hzero⟩

/-- A store not skipped is of the stored byte (R242). -/
theorem fxStore_of_not_skipped (a : VAddr) (h : ¬ storeSkipped s nib b) :
    fxStore a nib b s = memWrite a (storedByte s nib (s.readByte a) b) s := by
  unfold storeSkipped at h
  rw [fxStore_eq]
  unfold storedByte
  cases hmode4 : s.mode4 <;> cases nib <;>
    · simp only [hmode4, Bool.false_eq_true, if_true, if_false] at h ⊢
      rw [if_neg h, if_neg h]

theorem fxStore_readByte (a c : VAddr) :
    (fxStore a nib b s).readByte c = if c = a then storedByte s nib (s.readByte a) b else s.readByte c := by
  by_cases hskip : storeSkipped s nib b
  · rw [fxStore_of_skipped a hskip, storedByte_of_skipped _ hskip]
    split
    · next hc => rw [hc]
    · rfl
  · rw [fxStore_of_not_skipped a hskip, memWrite_readByte]

end

theorem memWrite_events (a : VAddr) (v : Byte) (s : State) : (memWrite a v s).events = s.events ++ storeEvents a v := by
  rw [memWrite_eq_storeEvents]

/-- What an advance before a write leaves for the store: VRAM, the controls, the FX cache with its index, and the
accumulator. -/
structure StoresAlike (s m : State) : Prop where
  comp : m.comp = s.comp
  bytes : ∀ a, m.readByte a = s.readByte a
  events : m.events = s.events
  cache : m.fx.cache = s.fx.cache
  cByte : m.fx.cByte = s.fx.cByte
  acc : m.fx.acc = s.fx.acc

theorem portAdvance_write_storesAlike (p : PortId) (s : State) : StoresAlike s (portAdvance p true s) := by
  have advances := portAdvance_advances p true s
  have hfx := portAdvance_fx_write p (s := s)
  refine ⟨advances.comp_eq, advances.readByte_eq, ?_, ?_, ?_, ?_⟩
  · rw [advances.rest]
  · rw [hfx]
  · rw [hfx]
  · rw [hfx]

section
variable {s m : State} (h : StoresAlike s m)
include h

theorem StoresAlike.mode4 : m.mode4 = s.mode4 := by simp only [State.mode4, h.comp]

theorem StoresAlike.transp : m.transp = s.transp := by simp only [State.transp, h.comp]

theorem StoresAlike.cacheCyc : m.cacheCyc = s.cacheCyc := by simp only [State.cacheCyc, h.comp]

theorem StoresAlike.cacheWr : m.cacheWr = s.cacheWr := by simp only [State.cacheWr, h.comp]

theorem StoresAlike.cacheByte_eq : cacheByte m = cacheByte s := by simp only [cacheByte, h.cache, h.cByte]

theorem StoresAlike.storedByte_eq (nib : Bool) (old b : Byte) : storedByte m nib old b = storedByte s nib old b := by
  simp only [storedByte, h.mode4, h.transp]

theorem StoresAlike.storeSkipped_iff (nib : Bool) (b : Byte) : storeSkipped m nib b ↔ storeSkipped s nib b := by
  simp only [storeSkipped, h.mode4, h.transp]

/-- Without CACHE_WR the store is of the byte written, or of the cycling byte (R241). -/
theorem StoresAlike.dataStore_single (hwr : s.cacheWr = false) (a : VAddr) (nib : Bool) (v : Byte) :
    dataStore a nib v m = fxStore a nib (if s.cacheCyc then cacheByte s else v) m := by
  rw [dataStore, h.cacheWr, hwr, h.cacheCyc, h.cacheByte_eq]
  rfl

end

theorem dataWrite_readByte (p : PortId) (v : Byte) (s : State) (a : VAddr) :
    (dataWrite p v s).readByte a =
      (dataStore (s.port p).addr (s.port p).nib v (portAdvance p true s)).readByte a := reprime_readByte p _ a

theorem dataWrite_events (p : PortId) (v : Byte) (s : State) :
    (dataWrite p v s).events = (dataStore (s.port p).addr (s.port p).nib v (portAdvance p true s)).events :=
  State.setPort_events _ p _

/-- Settles O30: the store, skipped or not, in the state the advance has led to. -/
theorem singleByteStores : Obligations.SingleByteStores := by
  rintro p s v b _ hwr rfl hb
  have alike := portAdvance_write_storesAlike p s
  have single : dataStore (s.port p).addr (s.port p).nib v (portAdvance p true s) =
      fxStore (s.port p).addr (s.port p).nib b (portAdvance p true s) := by
    rw [alike.dataStore_single hwr, hb]
    rfl
  have bytes (a : VAddr) : (dataWrite p v s).readByte a =
      if a = (s.port p).addr then storedByte s (s.port p).nib (s.readByte (s.port p).addr) b else s.readByte a := by
    rw [dataWrite_readByte, single, fxStore_readByte, alike.storedByte_eq, alike.bytes, alike.bytes]
  refine ⟨_, exec_writeOp p v s, ?_, fun a ha => ?_, fun hskip => ?_, fun hskip => ?_⟩
  · exact (bytes _).trans (if_pos rfl)
  · exact (bytes a).trans (if_neg ha)
  · rw [← alike.storeSkipped_iff] at hskip
    rw [State.returning_events, dataWrite_events, single, fxStore_of_skipped _ hskip, alike.events]
  · rw [← alike.storeSkipped_iff] at hskip
    rw [State.returning_events, dataWrite_events, single, fxStore_of_not_skipped _ hskip, memWrite_events,
      alike.storedByte_eq, alike.bytes, alike.events]

/-! ## The cache write (O31) -/

/-- The byte left by a store of `b` over `old` under a nibble mask: bit 1 protects the high nibble, bit 0 the low. -/
def maskedByte (mask : BitVec 2) (old b : Byte) : Byte :=
  (if mask.getLsbD 1 then old else b).extractLsb' 4 4 ++ (if mask.getLsbD 0 then old else b).extractLsb' 0 4

theorem maskedByte_high (mask : BitVec 2) (old b : Byte) :
    (maskedByte mask old b).toNat / 16 = (if mask.getLsbD 1 then old else b).toNat / 16 := by
  have hbyte := (if mask.getLsbD 1 then old else b).isLt
  rw [maskedByte, toNat_append_eq, toNat_extractLsb'_eq, toNat_extractLsb'_eq]
  omega

theorem maskedByte_low (mask : BitVec 2) (old b : Byte) :
    (maskedByte mask old b).toNat % 16 = (if mask.getLsbD 0 then old else b).toNat % 16 := by
  rw [maskedByte, toNat_append_eq, toNat_extractLsb'_eq, toNat_extractLsb'_eq]
  omega

theorem nibbles_append (b : Byte) : b.extractLsb' 4 4 ++ b.extractLsb' 0 4 = b := by
  rw [← joinNibbles_eq_append]
  apply BitVec.eq_of_toNat_eq
  rw [joinNibbles_toNat]
  omega

/-- `CacheStore` (R250): nothing under a full mask, and otherwise the masked byte. -/
theorem cacheStore_eq (a : VAddr) (b : Byte) (m : BitVec 2) (s : State) :
    cacheStore a b m s =
      if transparentMask s b m = 3 then s
      else memWrite a (maskedByte (transparentMask s b m) (s.readByte a) b) s := by
  unfold cacheStore
  rcases kind_cases (transparentMask s b m) with hmask | hmask | hmask | hmask
  · rw [hmask, if_neg (by decide)]
    exact congrArg (memWrite a · s) (nibbles_append b).symm
  · rw [hmask, if_neg (by decide)]
    refine congrArg (memWrite a · s) ?_
    rw [BitVec.or_comm]
    exact joinNibbles_eq_append _ _
  · rw [hmask, if_neg (by decide)]
    exact congrArg (memWrite a · s) (joinNibbles_eq_append _ _)
  · rw [hmask, if_pos rfl]
    rfl

theorem cacheStore_readByte (a c : VAddr) (b : Byte) (m : BitVec 2) (s : State) :
    (cacheStore a b m s).readByte c =
      if c = a then maskedByte (transparentMask s b m) (s.readByte a) b else s.readByte c := by
  rw [cacheStore_eq]
  split
  · next hmask =>
    rw [hmask]
    split
    · next hc =>
      rw [hc]
      exact (nibbles_append _).symm
    · rfl
  · exact memWrite_readByte a c _ s

theorem cacheStore_events (a : VAddr) (b : Byte) (m : BitVec 2) (s : State) :
    (cacheStore a b m s).events =
      s.events ++ if transparentMask s b m = 3 then []
        else storeEvents a (maskedByte (transparentMask s b m) (s.readByte a) b) := by
  rw [cacheStore_eq]
  split
  · exact (List.append_nil _).symm
  · exact memWrite_events a _ s

/-- A nibble is protected exactly when its bit of the mask after transparency is set (R250). -/
theorem transparentMask_bits (s : State) (b : Byte) (m : BitVec 2) :
    ((transparentMask s b m).getLsbD 1 = true ↔ highProtected s b m.toNat) ∧
      ((transparentMask s b m).getLsbD 0 = true ↔ lowProtected s b m.toNat) := by
  have protects : ∀ m : BitVec 2,
      (m.getLsbD 1 = true ↔ 2 ≤ m.toNat) ∧ (m.getLsbD 0 = true ↔ m.toNat % 2 = 1) := by decide
  have zeroNibbles : ∀ (m : BitVec 2) (high low : Bool),
      (m ||| (if high then 2 else 0) ||| (if low then 1 else 0)).getLsbD 1 = (m.getLsbD 1 || high) ∧
      (m ||| (if high then 2 else 0) ||| (if low then 1 else 0)).getLsbD 0 = (m.getLsbD 0 || low) := by decide
  obtain ⟨hhigh, hlow⟩ := protects m
  unfold transparentMask highProtected lowProtected
  cases s.transp with
  | false =>
    simp only [Bool.false_eq_true, if_false, false_and, or_false]
    exact ⟨hhigh, hlow⟩
  | true =>
    cases s.mode4 with
    | true =>
      have bits := zeroNibbles m (decide (b &&& 0xF0 = 0)) (decide (b &&& 0x0F = 0))
      simp only [decide_eq_true_eq] at bits
      simp only [if_true, true_and]
      rw [bits.1, bits.2]
      simp only [Bool.or_eq_true, decide_eq_true_eq, highNibble_eq_zero_iff, lowNibble_eq_zero_iff, hhigh, hlow,
        and_self]
    | false =>
      by_cases hzero : b = 0
      · simp [hzero]
      · have hzero' := mt (byte_eq_zero_iff b).mpr hzero
        simp only [if_true, if_neg hzero, Bool.false_eq_true, if_false, hzero', and_false, or_false, hhigh, hlow,
          and_self]

theorem mask_eq_three_iff (m : BitVec 2) : m = 3 ↔ m.getLsbD 1 = true ∧ m.getLsbD 0 = true := by
  revert m
  decide

/-- The nibbles a cache write protects at address `k` of its group: those of mask `k` of the byte written and the
transparent ones. -/
def cacheMask (src : State) (v : Byte) (k : Fin 4) : BitVec 2 :=
  transparentMask src (cacheWriteByte k src) (v.extractLsb' (2 * k.val) 2)

/-- The byte a cache write leaves at address `k` of its group. -/
def cacheStored (src : State) (a : VAddr) (v : Byte) (k : Fin 4) : Byte :=
  maskedByte (cacheMask src v k) (src.readByte (cacheWriteAddr a k)) (cacheWriteByte k src)

/-- The events a cache write emits at address `k` of its group. -/
def cacheEvents (src : State) (a : VAddr) (v : Byte) (k : Fin 4) : List Event :=
  if cacheMask src v k = 3 then [] else storeEvents (cacheWriteAddr a k) (cacheStored src a v k)

theorem cacheWriteAddr_inj (a : VAddr) {j k : Fin 4} : cacheWriteAddr a j = cacheWriteAddr a k ↔ j = k := by
  refine ⟨fun h => Fin.ext ?_, fun h => by rw [h]⟩
  have hj := cacheWriteAddr_toNat a j
  have hk := cacheWriteAddr_toNat a k
  rw [h] at hj
  omega

section
variable (src : State) (a : VAddr) (v : Byte)

/-- One store of the four, where the byte to be replaced and the controls are as before the write. -/
theorem cacheWriteOne_spec (k : Fin 4) {t : State} (hcomp : t.comp = src.comp)
    (hbyte : t.readByte (cacheWriteAddr a k) = src.readByte (cacheWriteAddr a k)) :
    (∀ c, (cacheWriteOne src a v k t).readByte c = if c = cacheWriteAddr a k then cacheStored src a v k
      else t.readByte c) ∧
    (cacheWriteOne src a v k t).events = t.events ++ cacheEvents src a v k := by
  have hmask (b : Byte) (m : BitVec 2) : transparentMask t b m = transparentMask src b m := by
    simp only [transparentMask, State.transp, State.mode4, hcomp]
    rfl
  unfold cacheWriteOne cacheEvents cacheStored cacheMask
  refine ⟨fun c => ?_, ?_⟩
  · rw [cacheStore_readByte, hmask, hbyte]
  · rw [cacheStore_events, hmask, hbyte]

/-- The four stores: each at its own address, the events in ascending order (R249). -/
theorem cacheWrite_spec :
    (∀ k, (cacheWrite a v src).readByte (cacheWriteAddr a k) = cacheStored src a v k) ∧
      (cacheWrite a v src).events = src.events ++ cacheEvents src a v 0 ++ cacheEvents src a v 1 ++
        cacheEvents src a v 2 ++ cacheEvents src a v 3 := by
  obtain ⟨bytes0, events0⟩ := cacheWriteOne_spec src a v 0 (t := src) rfl rfl
  obtain ⟨bytes1, events1⟩ := cacheWriteOne_spec src a v 1 (t := cacheWriteOne src a v 0 src)
    (by simp only [cacheWriteOne_comp]) (by simp [bytes0, cacheWriteAddr_inj])
  obtain ⟨bytes2, events2⟩ := cacheWriteOne_spec src a v 2 (t := cacheWriteOne src a v 1 (cacheWriteOne src a v 0 src))
    (by simp only [cacheWriteOne_comp]) (by simp [bytes0, bytes1, cacheWriteAddr_inj])
  obtain ⟨bytes3, events3⟩ := cacheWriteOne_spec src a v 3
    (t := cacheWriteOne src a v 2 (cacheWriteOne src a v 1 (cacheWriteOne src a v 0 src)))
    (by simp only [cacheWriteOne_comp]) (by simp [bytes0, bytes1, bytes2, cacheWriteAddr_inj])
  unfold cacheWrite
  refine ⟨fun k => ?_, ?_⟩
  · simp only [bytes3, bytes2, bytes1, bytes0, cacheWriteAddr_inj]
    fin_cases k <;> simp
  · rw [events3, events2, events1, events0]

end

/-- The byte offered to address `k` in the spec's words: cycling, the multiplier's, or the cache's (R249). -/
theorem cacheWriteByte_eq (k : Fin 4) (s : State) : cacheWriteByte k s = cacheWriteSource s k := by
  have product : (accumulated s.subtract s).extractLsb' (8 * k.val) 8 =
      BitVec.ofNat 8 ((accumulatedValue s.subtract s).toNat / 256 ^ k.val) := by
    rw [extractLsb'_eq_ofNat, accumulated_eq, pow_mul]
    rfl
  rw [cacheWriteByte, product]
  rfl

theorem StoresAlike.cacheWriteSource_eq {s m : State} (h : StoresAlike s m) (k : Fin 4) :
    cacheWriteSource m k = cacheWriteSource s k := by
  have hmult : m.multEn = s.multEn := by simp only [State.multEn, h.comp]
  have hsub : m.subtract = s.subtract := by simp only [State.subtract, h.comp]
  simp only [cacheWriteSource, accumulatedValue, operandA, operandB, h.cacheCyc, hmult, hsub, h.cache, h.cByte, h.acc]

theorem cacheMask_bits (s : State) (v : Byte) (k : Fin 4) :
    ((cacheMask s v k).getLsbD 1 = true ↔ highProtected s (cacheWriteSource s k) (v.toNat / 4 ^ k.val % 4)) ∧
      ((cacheMask s v k).getLsbD 0 = true ↔ lowProtected s (cacheWriteSource s k) (v.toNat / 4 ^ k.val % 4)) := by
  have field : (v.extractLsb' (2 * k.val) 2).toNat = v.toNat / 4 ^ k.val % 4 := by
    rw [toNat_extractLsb'_eq, pow_mul]
    rfl
  rw [cacheMask, cacheWriteByte_eq, ← field]
  exact transparentMask_bits s _ _

theorem cacheMask_full_iff (s : State) (v : Byte) (k : Fin 4) :
    cacheMask s v k = 3 ↔ highProtected s (cacheWriteSource s k) (v.toNat / 4 ^ k.val % 4) ∧
      lowProtected s (cacheWriteSource s k) (v.toNat / 4 ^ k.val % 4) := by
  obtain ⟨hhigh, hlow⟩ := cacheMask_bits s v k
  rw [mask_eq_three_iff, hhigh, hlow]

/-- The nibbles of the byte left, protected or not (R250). -/
theorem cacheStored_nibbles (s : State) (a : VAddr) (v : Byte) (k : Fin 4) :
    (cacheStored s a v k).toNat / 16 =
        (if (cacheMask s v k).getLsbD 1 then s.readByte (cacheWriteAddr a k) else cacheWriteSource s k).toNat / 16 ∧
      (cacheStored s a v k).toNat % 16 =
        (if (cacheMask s v k).getLsbD 0 then s.readByte (cacheWriteAddr a k) else cacheWriteSource s k).toNat % 16 := by
  rw [cacheStored, cacheWriteByte_eq]
  exact ⟨maskedByte_high _ _ _, maskedByte_low _ _ _⟩

section
variable {s m : State} (h : StoresAlike s m) (a : VAddr) (v : Byte) (k : Fin 4)
include h

theorem StoresAlike.cacheMask_eq : cacheMask m v k = cacheMask s v k := by
  simp only [cacheMask, cacheWriteByte_eq, h.cacheWriteSource_eq, transparentMask, h.transp, h.mode4]

theorem StoresAlike.cacheStored_eq : cacheStored m a v k = cacheStored s a v k := by
  simp only [cacheStored, h.cacheMask_eq, cacheWriteByte_eq, h.cacheWriteSource_eq, h.bytes]

theorem StoresAlike.cacheEvents_eq : cacheEvents m a v k = cacheEvents s a v k := by
  simp only [cacheEvents, h.cacheMask_eq, h.cacheStored_eq]

end

/-- A data write with CACHE_WR, from the state before it (R249). -/
theorem dataWrite_cacheWr (p : PortId) (v : Byte) {s : State} {a : VAddr} (hwr : s.cacheWr = true)
    (ha : (s.port p).addr = a) :
    (∀ k, (dataWrite p v s).readByte (cacheWriteAddr a k) = cacheStored s a v k) ∧
      (dataWrite p v s).events = s.events ++ cacheEvents s a v 0 ++ cacheEvents s a v 1 ++ cacheEvents s a v 2 ++
        cacheEvents s a v 3 := by
  have alike := portAdvance_write_storesAlike p s
  obtain ⟨bytes, events⟩ := cacheWrite_spec (portAdvance p true s) a v
  have store (nib : Bool) : dataStore a nib v (portAdvance p true s) = cacheWrite a v (portAdvance p true s) :=
    if_pos (alike.cacheWr.trans hwr)
  refine ⟨fun k => ?_, ?_⟩
  · rw [dataWrite_readByte, ha, store, bytes, alike.cacheStored_eq]
  · rw [dataWrite_events, ha, store, events, alike.events]
    simp only [alike.cacheEvents_eq]

/-- Settles O31: the four masked stores from the state before the write, and the frame of a write. -/
theorem cacheWrites : Obligations.CacheWrites := by
  intro p s v hwr
  obtain ⟨bytes, events⟩ := dataWrite_cacheWr p v hwr rfl
  have hfx := (dataWrite_fx p v s).trans (portAdvance_fx_write p)
  have address {k : Fin 4} {a : VAddr} (ha : a.toNat = (s.port p).addr.toNat / 4 * 4 + k.val) :
      a = cacheWriteAddr (s.port p).addr k :=
    BitVec.eq_of_toNat_eq (ha.trans (cacheWriteAddr_toNat _ k).symm)
  refine ⟨_, exec_writeOp p v s, ?_, fun a ha => ?_, ?_, ?_, fun emitted hemitted => ?_, dataWrite_addr p v⟩
  · intro k a ha
    obtain rfl := address ha
    obtain ⟨hhigh, hlow⟩ := cacheStored_nibbles s (s.port p).addr v k
    obtain ⟨high, low⟩ := cacheMask_bits s v k
    rw [State.returning_readByte, bytes, hhigh, hlow, ← high, ← low]
    exact ⟨fun h => by rw [if_pos h], fun h => by rw [if_neg h], fun h => by rw [if_pos h], fun h => by rw [if_neg h]⟩
  · exact dataWrite_readByte_of_outside p v s (by rw [if_pos hwr]; exact ha)
  · rw [State.returning_fx, hfx]
  · rw [State.returning_fx, hfx]
  · have each (k : Fin 4) : emitted k = cacheEvents s (s.port p).addr v k := by
      obtain ⟨hfull, hpart⟩ := hemitted k _ (cacheWriteAddr_toNat _ k)
      rw [← cacheMask_full_iff] at hfull hpart
      rw [cacheEvents]
      split
      · next hmask => exact hfull hmask
      · next hmask => rw [hpart hmask, State.returning_readByte, bytes]
    rw [State.returning_events, events, each, each, each, each]

/-! ## The cache fill (O32) -/

/-- With CACHE_FILL no advance moves the cache or its indices: the fill does (R236, R246). -/
theorem primedRead_cache_of_filling (p : PortId) {s : State} (h : s.cacheFill = true) :
    (primedRead p s).fx.cache = s.fx.cache ∧ (primedRead p s).fx.cByte = s.fx.cByte ∧
      (primedRead p s).fx.cNib = s.fx.cNib := by
  rw [primedRead_fx]
  rcases a1Mode_cases s with hm | hm | hm | hm
  · rw [portAdvance_fx_direct p false hm]
    exact ⟨rfl, rfl, rfl⟩
  · rw [portAdvance_fx_line p false hm]
    exact ⟨rfl, rfl, rfl⟩
  · rw [portAdvance_fx_polygon_read p hm]
    cases p <;> simp [h]
  · rw [portAdvance_fx_affine_read p hm]
    cases p <;> simp

theorem primedRead_controls (p : PortId) (s : State) :
    (primedRead p s).mode4 = s.mode4 ∧ (primedRead p s).cacheInc2 = s.cacheInc2 := by
  simp only [State.mode4, State.cacheInc2, (primedRead_spec p s).1.comp_eq, and_self]

theorem nextIndex_toNat : ∀ i : BitVec 2,
    ((i &&& 2) ||| ((i + 1) &&& 1)).toNat = i.toNat / 2 * 2 + (i.toNat + 1) % 2 ∧
      (i + 1).toNat = (i.toNat + 1) % 4 := by decide

section
variable {s : State} (r : Byte) {old : Byte} {i : BitVec 2}

/-- In 8-bit mode the byte goes in whole and the index on, within its pair with CACHE_INC2 (R246). -/
theorem fillCache_mode8 (hmode4 : s.mode4 = false) (hi : s.fx.cByte = i) :
    (fillCache r s).fx.cache = s.fx.cache.set i.toNat r i.isLt ∧ (fillCache r s).fx.cNib = s.fx.cNib ∧
      (fillCache r s).fx.cByte.toNat =
        if s.cacheInc2 then i.toNat / 2 * 2 + (i.toNat + 1) % 2 else (i.toNat + 1) % 4 := by
  subst hi
  obtain ⟨hpair, hnext⟩ := nextIndex_toNat s.fx.cByte
  rw [fillCache, hmode4, if_neg (by decide), ← hpair, ← hnext]
  refine ⟨rfl, rfl, ?_⟩
  exact apply_ite BitVec.toNat _ _ _

/-- In 4-bit mode with the high nibble next, the high nibble goes in (R246). -/
theorem fillCache_highNibble (hmode4 : s.mode4 = true) (hnib : s.fx.cNib = false) (hi : s.fx.cByte = i)
    (hold : s.fx.cache[i.toNat]'i.isLt = old) :
    (fillCache r s).fx.cache =
        s.fx.cache.set i.toNat (BitVec.ofNat 8 (r.toNat / 16 * 16 + old.toNat % 16)) i.isLt ∧
      (fillCache r s).fx.cNib = true ∧ (fillCache r s).fx.cByte = i := by
  subst hi hold
  rw [fillCache, if_pos hmode4, hnib, if_neg (by decide), ← joinNibbles_eq, BitVec.or_comm]
  exact ⟨rfl, rfl, rfl⟩

/-- In 4-bit mode with the low nibble next, the low nibble goes in and the index on (R246). -/
theorem fillCache_lowNibble (hmode4 : s.mode4 = true) (hnib : s.fx.cNib = true) (hi : s.fx.cByte = i)
    (hold : s.fx.cache[i.toNat]'i.isLt = old) :
    (fillCache r s).fx.cache =
        s.fx.cache.set i.toNat (BitVec.ofNat 8 (old.toNat / 16 * 16 + r.toNat % 16)) i.isLt ∧
      (fillCache r s).fx.cNib = false ∧ (fillCache r s).fx.cByte = i + 1 := by
  subst hi hold
  rw [fillCache, if_pos hmode4, if_pos hnib, ← joinNibbles_eq]
  exact ⟨rfl, rfl, rfl⟩

end

section
variable (p : PortId) {s : State} (hfill : s.cacheFill = true)
include hfill

theorem dataRead_of_filling : dataRead p s = fillCache (s.port p).rdData (primedRead p s) := if_pos hfill

theorem dataRead_filling_mode8 {i : BitVec 2} (hmode4 : s.mode4 = false) (hi : s.fx.cByte = i) :
    (dataRead p s).fx.cache = s.fx.cache.set i.toNat (s.port p).rdData i.isLt ∧
      (dataRead p s).fx.cNib = s.fx.cNib ∧
      (dataRead p s).fx.cByte.toNat =
        if s.cacheInc2 then i.toNat / 2 * 2 + (i.toNat + 1) % 2 else (i.toNat + 1) % 4 := by
  obtain ⟨hcache, hcByte, hcNib⟩ := primedRead_cache_of_filling p hfill
  obtain ⟨mode4, inc2⟩ := primedRead_controls p s
  rw [dataRead_of_filling p hfill, ← hcache, ← hcNib, ← inc2]
  exact fillCache_mode8 _ (mode4.trans hmode4) (hcByte.trans hi)

/-- One 8-bit read that fills: where the byte it returns goes, and what it leaves to the next. -/
theorem exec_read_filling {i : BitVec 2} (hmode4 : s.mode4 = false) (hinc2 : s.cacheInc2 = false)
    (hi : s.fx.cByte = i) :
    ∃ t r, exec p.readOp s = .next t ∧ t.result = .byte r ∧ t.comp = s.comp ∧
      t.fx.cache = s.fx.cache.set i.toNat r i.isLt ∧ t.fx.cByte = i + 1 := by
  obtain ⟨hcache, -, hcByte⟩ := dataRead_filling_mode8 p hfill hmode4 hi
  refine ⟨_, _, exec_readOp p s, rfl, ?_, hcache, BitVec.eq_of_toNat_eq ?_⟩
  · rw [State.returning_comp, dataRead_frame]
  · rw [State.returning_fx, hcByte, if_neg (by simp [hinc2]), (nextIndex_toNat i).2]

/-- Four 8-bit reads from index 0 load the whole cache with the bytes they return, and leave the index at 0 (R246). -/
theorem four_reads_load_cache (hmode4 : s.mode4 = false) (hinc2 : s.cacheInc2 = false) (hi : s.fx.cByte = 0) :
    ∃ t1 t2 t3 t4, exec p.readOp s = .next t1 ∧ exec p.readOp t1 = .next t2 ∧
      exec p.readOp t2 = .next t3 ∧ exec p.readOp t3 = .next t4 ∧ t4.fx.cByte = 0 ∧
      t1.result = .byte t4.fx.cache[0] ∧ t2.result = .byte t4.fx.cache[1] ∧
      t3.result = .byte t4.fx.cache[2] ∧ t4.result = .byte t4.fx.cache[3] := by
  have controls {t : State} (h : t.comp = s.comp) :
      t.cacheFill = true ∧ t.mode4 = false ∧ t.cacheInc2 = false := by
    simp only [State.cacheFill, State.mode4, State.cacheInc2, h]
    exact ⟨hfill, hmode4, hinc2⟩
  obtain ⟨t1, r1, exec1, result1, comp1, cache1, index1⟩ := exec_read_filling p hfill hmode4 hinc2 hi
  obtain ⟨fill1, mode1, inc1⟩ := controls comp1
  obtain ⟨t2, r2, exec2, result2, comp2, cache2, index2⟩ := exec_read_filling p fill1 mode1 inc1 index1
  obtain ⟨fill2, mode2, inc2⟩ := controls (comp2.trans comp1)
  obtain ⟨t3, r3, exec3, result3, comp3, cache3, index3⟩ := exec_read_filling p fill2 mode2 inc2 index2
  obtain ⟨fill3, mode3, inc3⟩ := controls (comp3.trans (comp2.trans comp1))
  obtain ⟨t4, r4, exec4, result4, -, cache4, index4⟩ := exec_read_filling p fill3 mode3 inc3 index3
  rw [cache3, cache2, cache1] at cache4
  refine ⟨t1, t2, t3, t4, exec1, exec2, exec3, exec4, index4, ?_, ?_, ?_, ?_⟩
  · rw [result1]
    simp [cache4]
  · rw [result2]
    simp [cache4]
  · rw [result3]
    simp [cache4]
  · rw [result4]
    simp [cache4]

end

/-- Settles O32: the fill in each mode, and four fills in a row. -/
theorem cacheFills : Obligations.CacheFills := by
  rintro p s r old i hfill rfl hi hold
  obtain ⟨hcache, hcByte, hcNib⟩ := primedRead_cache_of_filling p hfill
  obtain ⟨mode4, -⟩ := primedRead_controls p s
  refine ⟨⟨_, exec_readOp p s, fun hmode4 => dataRead_filling_mode8 p hfill hmode4 hi, fun hmode4 hnib => ?_,
    fun hmode4 hnib => ?_⟩, fun hmode4 hinc2 hzero => four_reads_load_cache p hfill hmode4 hinc2 (hi.trans hzero)⟩
  · rw [State.returning_fx, dataRead_of_filling p hfill, ← hcache]
    exact fillCache_highNibble _ (mode4.trans hmode4) (hcNib.trans hnib) (hcByte.trans hi)
      (by simpa only [hcache] using hold)
  · rw [State.returning_fx, dataRead_of_filling p hfill, ← hcache]
    exact fillCache_lowNibble _ (mode4.trans hmode4) (hcNib.trans hnib) (hcByte.trans hi)
      (by simpa only [hcache] using hold)

end Sys2Proof.Machine
end

section
/-! Proofs of the layer family (spec/44_layers.md): the fields of the layer registers as numbers, the registers
themselves (O44, O45, O46) and the colour of a layer at a position (O60). -/

namespace Sys2Proof.Machine

/-! ## The fields of the layer registers -/

section
variable (r : LayerRegs)

theorem LayerRegs.depth_eq : r.depth = r.config.toNat % 4 := by
  rw [depth, toNat_extractLsb'_eq, pow_zero, Nat.div_one]
  rfl

theorem LayerRegs.bitmap_eq : r.bitmap = decide (r.config.toNat / 4 % 2 = 1) := getLsbD_eq_decide r.config 2

theorem LayerRegs.t256c_eq : r.t256c = decide (r.config.toNat / 8 % 2 = 1) := getLsbD_eq_decide r.config 3

theorem LayerRegs.mapWLog2_eq : r.mapWLog2 = 5 + r.config.toNat / 16 % 4 :=
  congrArg (5 + ·) (toNat_extractLsb'_eq r.config 4 2)

/-- The two top bits of CONFIG need no mask. -/
theorem LayerRegs.mapHLog2_eq : r.mapHLog2 = 5 + r.config.toNat / 64 := by
  have hbyte := r.config.isLt
  rw [mapHLog2, toNat_extractLsb'_eq]
  omega

/-- The six top bits of TILEBASE need no mask. -/
theorem LayerRegs.tileAddr_eq : r.tileAddr = r.tileBase.toNat / 4 * 2048 := by
  have hbyte := r.tileBase.isLt
  rw [tileAddr, toNat_extractLsb'_eq]
  omega

/-- A tile side of 8 pixels, doubled by its bit. -/
theorem two_pow_three_add_bit (n : Nat) : 2 ^ (3 + n % 2) = if n % 2 = 1 then 16 else 8 := by
  rcases Nat.mod_two_eq_zero_or_one n with h | h <;> rw [h] <;> rfl

theorem LayerRegs.two_pow_tileWLog2 : 2 ^ r.tileWLog2 = layerTileW r := by
  rw [tileWLog2, toNat_extractLsb'_eq, pow_zero, Nat.div_one]
  exact two_pow_three_add_bit r.tileBase.toNat

theorem LayerRegs.two_pow_tileHLog2 : 2 ^ r.tileHLog2 = layerTileH r := by
  rw [tileHLog2, toNat_extractLsb'_eq]
  exact two_pow_three_add_bit (r.tileBase.toNat / 2)

theorem LayerRegs.two_pow_mapWLog2 : 2 ^ r.mapWLog2 = layerMapW r := by
  rw [mapWLog2_eq, pow_add]
  rfl

theorem LayerRegs.two_pow_mapHLog2 : 2 ^ r.mapHLog2 = layerMapH r := by
  rw [mapHLog2_eq, pow_add]
  rfl

theorem LayerRegs.bpp_eq : r.bpp = layerBits r := by
  rw [bpp, Nat.one_shiftLeft, depth_eq]
  rfl

theorem LayerRegs.layerW_eq : r.layerW = layerMapW r * layerTileW r := by
  rw [layerW, Nat.one_shiftLeft, pow_add, two_pow_mapWLog2, two_pow_tileWLog2]

theorem LayerRegs.layerH_eq : r.layerH = layerMapH r * layerTileH r := by
  rw [layerH, Nat.one_shiftLeft, pow_add, two_pow_mapHLog2, two_pow_tileHLog2]

theorem LayerRegs.bitmapW_eq : r.bitmapW = layerBitmapW r := by
  simp only [bitmapW, layerBitmapW, getLsbD_eq_decide, pow_zero, Nat.div_one, decide_eq_true_eq]

/-- The low four bits of the high byte over the low byte. -/
theorem scroll_toNat (high low : Byte) :
    (high.extractLsb' 0 4 ++ low).toNat = high.toNat % 16 * 256 + low.toNat := by
  rw [toNat_append_eq, toNat_extractLsb'_eq, pow_zero, Nat.div_one]
  rfl

theorem LayerRegs.hscroll_eq : r.hscroll = layerScrollX r := scroll_toNat r.hscrollH r.hscrollL

theorem LayerRegs.vscroll_eq : r.vscroll = layerScrollY r := scroll_toNat r.vscrollH r.vscrollL

theorem LayerRegs.bitmapPalOffset_eq : r.bitmapPalOffset = BitVec.ofNat 4 (r.hscrollH.toNat % 16) :=
  extractLsb'_zero_eq_ofNat_mod r.hscrollH 4

theorem LayerRegs.bitmapPalOffset_toNat : r.bitmapPalOffset.toNat = r.hscrollH.toNat % 16 := by
  rw [bitmapPalOffset, toNat_extractLsb'_eq, pow_zero, Nat.div_one]
  rfl

end

/-! ## The layer registers (O44, O45, O46) -/

/-- Settles O44: each register is its byte, and each field of layer 0 is its bits of the byte just stored. -/
theorem layerShapeRegisters : Obligations.LayerShapeRegisters := by
  intro s v
  refine ⟨rfl, rfl, rfl, rfl, rfl, rfl, ?config, ?mapBase, ?tileBase, rfl, rfl, rfl⟩
  case config =>
    rintro r rfl
    exact ⟨rfl, LayerRegs.mapHLog2_eq _, LayerRegs.mapWLog2_eq _, LayerRegs.t256c_eq _, LayerRegs.bitmap_eq _,
      LayerRegs.depth_eq _⟩
  case mapBase =>
    rintro r rfl
    exact ⟨rfl, rfl⟩
  case tileBase =>
    rintro r rfl
    exact ⟨rfl, LayerRegs.tileAddr_eq _, LayerRegs.two_pow_tileHLog2 _, LayerRegs.two_pow_tileWLog2 _⟩

/-- Settles O45: each register is its byte, and HSCROLL is assembled from the byte stored and the other one. -/
theorem layerHorizontalScrollRegisters : Obligations.LayerHorizontalScrollRegisters := by
  intro s v
  refine ⟨rfl, rfl, rfl, rfl, ?low, ?high, rfl, rfl⟩
  case low =>
    rintro r rfl
    exact ⟨rfl, LayerRegs.hscroll_eq _⟩
  case high =>
    rintro r rfl
    exact ⟨rfl, LayerRegs.hscroll_eq _, LayerRegs.bitmapPalOffset_toNat _⟩

/-- Settles O46: each register is its byte, and VSCROLL is assembled from the byte stored and the other one. -/
theorem layerVerticalScrollRegisters : Obligations.LayerVerticalScrollRegisters := by
  intro s v
  refine ⟨rfl, rfl, rfl, rfl, ?low, ?high, rfl, rfl⟩
  case low =>
    rintro r rfl
    exact ⟨rfl, LayerRegs.vscroll_eq _⟩
  case high =>
    rintro r rfl
    exact ⟨rfl, LayerRegs.vscroll_eq _⟩

/-! ## Packed pixels and the palette offset (R279, R280) -/

/-- The offset fills the high nibble above a colour below 16, so nothing carries. -/
theorem palOffset_toNat (col : Byte) (off : BitVec 4) :
    (palOffset col off).toNat =
      if 0 < col.toNat ∧ col.toNat < 16 then off.toNat * 16 + col.toNat else col.toNat := by
  rw [palOffset]
  split
  case isTrue hcol =>
    have hoff := off.isLt
    rw [BitVec.toNat_add, toNat_append_eq]
    simp only [BitVec.toNat_ofNat]
    omega
  case isFalse => rfl

/-- Pixels of `2 ^ d` bits repeat every `8 / 2 ^ d` positions, so the bit offset is that of the position's remainder. -/
theorem extractPixel_toNat (d : Fin 4) (b : Byte) (x : Nat) :
    (extractPixel (2 ^ d.val) b x).toNat =
      b.toNat / 2 ^ (8 - 2 ^ d.val - x % (8 / 2 ^ d.val) * 2 ^ d.val) % 2 ^ 2 ^ d.val := by
  have hdepth : d.val ≤ 3 := Nat.le_of_lt_succ d.isLt
  have hbits : 2 ^ d.val ≤ 8 := Nat.pow_le_pow_right (by decide) hdepth
  have hperiod : 8 / 2 ^ d.val * 2 ^ d.val = 8 := Nat.div_mul_cancel (pow_dvd_pow 2 hdepth)
  have hoffset : x * 2 ^ d.val % 8 = x % (8 / 2 ^ d.val) * 2 ^ d.val := by
    conv_lhs => rw [← hperiod, Nat.mul_mod_mul_right]
  have hfits : ∀ n, n % 2 ^ 2 ^ d.val < 2 ^ 8 := fun n =>
    (Nat.mod_lt n (Nat.two_pow_pos _)).trans_le (Nat.pow_le_pow_right (by decide) hbits)
  rw [extractPixel, BitVec.toNat_ofNat, Nat.mod_eq_of_lt (hfits _), Nat.shiftRight_eq_div_pow, hoffset]

/-! ## Addresses in the map and in a tile (R275 to R277) -/

section
variable (r : LayerRegs)

theorem mapEntryAddr_eq (ex ey : Nat) : mapEntryAddr r ex ey = layerCell r ex ey := by
  simp only [mapEntryAddr, LayerRegs.mapAddr, Nat.shiftRight_eq_div_pow, Nat.shiftLeft_eq,
    LayerRegs.two_pow_tileHLog2, LayerRegs.two_pow_tileWLog2, LayerRegs.two_pow_mapWLog2]
  rfl

theorem eight_dvd_layerTileW : 8 ∣ layerTileW r := by
  rw [layerTileW]
  split <;> decide

/-- The bytes of one row of a glyph. -/
theorem glyphRowBytes_eq : 1 <<< (r.tileWLog2 - 3) = layerTileW r / 8 := by
  rw [Nat.one_shiftLeft, ← LayerRegs.two_pow_tileWLog2]
  exact (Nat.pow_div (Nat.le_add_right 3 _) (by decide)).symm

theorem glyphAddr_eq (glyph xx yy : Nat) :
    r.tileAddr + glyph * ((1 <<< (r.tileWLog2 - 3)) <<< r.tileHLog2) + yy * (1 <<< (r.tileWLog2 - 3)) + xx / 8 =
      layerGlyph r glyph xx yy := by
  rw [glyphRowBytes_eq, Nat.shiftLeft_eq, LayerRegs.two_pow_tileHLog2, LayerRegs.tileAddr_eq]
  rfl

theorem texelAddr_eq (tile xx yy : Nat) :
    r.tileAddr + tile * (((layerBits r <<< r.tileWLog2) / 8) <<< r.tileHLog2) +
      yy * ((layerBits r <<< r.tileWLog2) / 8) + xx * layerBits r / 8 = layerTexel r tile xx yy := by
  rw [Nat.shiftLeft_eq, Nat.shiftLeft_eq, LayerRegs.two_pow_tileHLog2, LayerRegs.two_pow_tileWLog2,
    LayerRegs.tileAddr_eq]
  rfl

end

/-- The complement of the low `n` bits of a number below `2 ^ n` mirrors it. -/
theorem xor_two_pow_sub_one {n x : Nat} (hx : x < 2 ^ n) : x ^^^ (2 ^ n - 1) = 2 ^ n - 1 - x := by
  refine Nat.eq_of_testBit_eq fun i => ?_
  rw [Nat.sub_sub, Nat.add_comm 1 x, Nat.testBit_two_pow_sub_succ hx, Nat.testBit_xor, Nat.testBit_two_pow_sub_one]
  by_cases hi : i < n
  · simp [hi]
  · have hbit : x.testBit i = false :=
      Nat.testBit_lt_two_pow (hx.trans_le (Nat.pow_le_pow_right (by decide) (Nat.le_of_not_lt hi)))
    simp [hi, hbit]

/-- A flip mirrors a position within its tile side of `side` pixels. -/
theorem flipped_eq {log2 side : Nat} (hside : 2 ^ log2 = side) (b : Byte) (k x : Nat) :
    flipped (b.getLsbD k) log2 (x % 2 ^ log2) =
      if b.toNat / 2 ^ k % 2 = 1 then side - 1 - x % side else x % side := by
  subst hside
  rw [flipped, xor_two_pow_sub_one (Nat.mod_lt x (Nat.two_pow_pos log2)), getLsbD_eq_decide]
  simp only [decide_eq_true_eq]

/-- The ten bits of a tile's number. -/
theorem tileNumber_toNat (b0 b1 : Byte) : (b1.extractLsb' 0 2 ++ b0).toNat = b1.toNat % 4 * 256 + b0.toNat := by
  rw [toNat_append_eq, toNat_extractLsb'_eq, pow_zero, Nat.div_one]
  rfl

/-! ## The colour at a position (O60) -/

/-- A map entry's foreground colour. -/
theorem lowNibble_setWidth (b : Byte) : (b.extractLsb' 0 4).setWidth 8 = BitVec.ofNat 8 (b.toNat % 16) :=
  eq_ofNat_of_toNat_eq (by
    rw [BitVec.toNat_setWidth_of_le (by decide), toNat_extractLsb'_eq, pow_zero, Nat.div_one]
    rfl)

/-- A map entry's background colour. -/
theorem highNibble_setWidth (b : Byte) : (b.extractLsb' 4 4).setWidth 8 = BitVec.ofNat 8 (b.toNat / 16) :=
  eq_ofNat_of_toNat_eq (by
    have hbyte := b.isLt
    rw [BitVec.toNat_setWidth_of_le (by decide), toNat_extractLsb'_eq]
    omega)

section
variable (s : State) (r : LayerRegs) (ex ey : Nat)

/-- The two colours of a glyph's pixel: the map entry's whole byte on 0 with T256C, its nibbles without. -/
theorem textPixel_eq {b0 b1 glyphByte : Byte} (hb0 : b0 = s.vram (layerCell r ex ey))
    (hb1 : b1 = s.vram (layerCell r ex ey + 1))
    (hglyph : glyphByte = s.vram (layerGlyph r b0.toNat (ex % layerTileW r) (ey % layerTileH r))) :
    textPixel s r ex ey =
      if glyphByte.toNat / 2 ^ (7 - ex % 8) % 2 = 1 then
        (if r.config.toNat / 8 % 2 = 1 then b1 else BitVec.ofNat 8 (b1.toNat % 16))
      else (if r.config.toNat / 8 % 2 = 1 then 0 else BitVec.ofNat 8 (b1.toNat / 16)) := by
  simp only [textPixel, mapEntryAddr_eq, glyphAddr_eq, LayerRegs.two_pow_tileWLog2, LayerRegs.two_pow_tileHLog2,
    ← hb0, ← hb1, ← hglyph, LayerRegs.t256c_eq, getLsbD_eq_decide, decide_eq_true_eq,
    Nat.mod_mod_of_dvd ex (eight_dvd_layerTileW r), lowNibble_setWidth, highNibble_setWidth]

/-- The entry's flips place the pixel in its tile, whose texel takes the entry's palette offset. -/
theorem tilePixel_eq {b0 b1 : Byte} (hb0 : b0 = s.vram (layerCell r ex ey))
    (hb1 : b1 = s.vram (layerCell r ex ey + 1)) {xx yy : Nat}
    (hxx : xx = if b1.toNat / 4 % 2 = 1 then layerTileW r - 1 - ex % layerTileW r else ex % layerTileW r)
    (hyy : yy = if b1.toNat / 8 % 2 = 1 then layerTileH r - 1 - ey % layerTileH r else ey % layerTileH r) :
    tilePixel s r ex ey =
      palOffset (extractPixel (layerBits r) (s.vram (layerTexel r (b1.toNat % 4 * 256 + b0.toNat) xx yy)) xx)
        (BitVec.ofNat 4 (b1.toNat / 16)) := by
  have hx : flipped (b1.getLsbD 2) r.tileWLog2 (ex % 2 ^ r.tileWLog2) = xx :=
    (flipped_eq r.two_pow_tileWLog2 b1 2 ex).trans hxx.symm
  have hy : flipped (b1.getLsbD 3) r.tileHLog2 (ey % 2 ^ r.tileHLog2) = yy :=
    (flipped_eq r.two_pow_tileHLog2 b1 3 ey).trans hyy.symm
  have hoffset : b1.extractLsb' 4 4 = BitVec.ofNat 4 (b1.toNat / 16) := extractLsb'_eq_ofNat b1 4 4
  simp only [tilePixel, mapEntryAddr_eq, ← hb0, ← hb1, hx, hy, tileNumber_toNat, LayerRegs.bpp_eq, texelAddr_eq,
    hoffset]

theorem bitmapPixel_eq :
    bitmapPixel s r ex ey =
      palOffset
        (extractPixel (layerBits r)
          (s.vram (r.tileBase.toNat / 4 * 2048 + (ey * layerBitmapW r + ex) * layerBits r / 8)) ex)
        (BitVec.ofNat 4 (r.hscrollH.toNat % 16)) := by
  simp only [bitmapPixel, LayerRegs.tileAddr_eq, LayerRegs.bitmapW_eq, LayerRegs.bpp_eq, LayerRegs.bitmapPalOffset_eq]

end

/-- R274, in text and tile modes. -/
theorem scrolledX_eq (r : LayerRegs) (sx : Nat) :
    scrolledX r sx = (sx + layerScrollX r) % (layerMapW r * layerTileW r) := by
  rw [scrolledX, LayerRegs.hscroll_eq, LayerRegs.layerW_eq]

theorem scrolledY_eq (r : LayerRegs) (sy : Nat) :
    scrolledY r sy = (sy + layerScrollY r) % (layerMapH r * layerTileH r) := by
  rw [scrolledY, LayerRegs.vscroll_eq, LayerRegs.layerH_eq]

section
variable (s : State) {r : LayerRegs} (sx sy : Nat)

/-- Without BITMAP at depth code 0 the layer is text (R273), at the scrolled position (R274). -/
theorem layerPixel_text (hbitmap : r.config.toNat / 4 % 2 = 0) (hdepth : r.config.toNat % 4 = 0) :
    layerPixel s r sx sy =
      textPixel s r ((sx + layerScrollX r) % (layerMapW r * layerTileW r))
        ((sy + layerScrollY r) % (layerMapH r * layerTileH r)) := by
  have hmode : layerMode r = .text := by simp [layerMode, LayerRegs.bitmap_eq, LayerRegs.depth_eq, hbitmap, hdepth]
  simp only [layerPixel, hmode, scrolledX_eq, scrolledY_eq]

/-- Without BITMAP at the other depth codes the layer is tiles (R273), at the scrolled position (R274). -/
theorem layerPixel_tile (hbitmap : r.config.toNat / 4 % 2 = 0) (hdepth : r.config.toNat % 4 ≠ 0) :
    layerPixel s r sx sy =
      tilePixel s r ((sx + layerScrollX r) % (layerMapW r * layerTileW r))
        ((sy + layerScrollY r) % (layerMapH r * layerTileH r)) := by
  have hmode : layerMode r = .tile := by simp [layerMode, LayerRegs.bitmap_eq, LayerRegs.depth_eq, hbitmap, hdepth]
  simp only [layerPixel, hmode, scrolledX_eq, scrolledY_eq]

/-- With BITMAP the layer is a bitmap (R273), whose scroll the parameter may ignore (R274). -/
theorem layerPixel_bitmap (hbitmap : r.config.toNat / 4 % 2 = 1) {dx dy : Nat}
    (hhonored : s.cfg.bitmapScroll = .honored → dx = layerScrollX r ∧ dy = layerScrollY r)
    (hignored : s.cfg.bitmapScroll = .ignored → dx = 0 ∧ dy = 0) :
    layerPixel s r sx sy = bitmapPixel s r ((sx + dx) % layerBitmapW r) ((sy + dy) % 480) := by
  have hmode : layerMode r = .bitmap := by simp [layerMode, LayerRegs.bitmap_eq, hbitmap]
  rw [layerPixel, hmode, ← LayerRegs.bitmapW_eq]
  cases hscroll : s.cfg.bitmapScroll with
  | honored =>
    obtain ⟨rfl, rfl⟩ := hhonored hscroll
    rw [← LayerRegs.hscroll_eq, ← LayerRegs.vscroll_eq]
    rfl
  | ignored =>
    obtain ⟨rfl, rfl⟩ := hignored hscroll
    rfl

end

/-- Settles O60: the mode picks the renderer and its position, and each renderer's colour is that of its bytes. -/
theorem pixelExtraction : Obligations.PixelExtraction := by
  refine ⟨?mapped, ?bitmap, extractPixel_toNat, palOffset_toNat⟩
  case mapped =>
    rintro s r sx sy _ _ b0 b1 hbitmap rfl rfl hb0 hb1
    refine ⟨fun hdepth glyphByte hglyph => ?text, fun hdepth xx yy hxx hyy => ?tile⟩
    case text => exact (layerPixel_text s sx sy hbitmap hdepth).trans (textPixel_eq s r _ _ hb0 hb1 hglyph)
    case tile => exact (layerPixel_tile s sx sy hbitmap hdepth).trans (tilePixel_eq s r _ _ hb0 hb1 hxx hyy)
  case bitmap =>
    rintro s r sx sy _ _ dx dy hbitmap hhonored hignored rfl rfl
    exact (layerPixel_bitmap s sx sy hbitmap hhonored hignored).trans (bitmapPixel_eq s r _ _)

end Sys2Proof.Machine
end

section
/-! Proofs of the sprite family (spec/45_sprites.md): the geometry of a record, the unpacked row, the charged walk of
the columns, and the pixel (O59). -/

namespace Sys2Proof.Machine

/-! ## The geometry of a record (R311) -/

/-- A side of a sprite: 8 pixels, doubled by its two-bit field. -/
theorem spriteSide_eq (b : Byte) (start : Nat) :
    8 <<< (b.extractLsb' start 2).toNat = 8 * 2 ^ (b.toNat / 2 ^ start % 4) := by
  rw [Nat.shiftLeft_eq, toNat_extractLsb'_eq]
  rfl

section
variable (b : Nat → Byte)

theorem spriteOf_w : (spriteOf b).w = 8 * 2 ^ ((b 7).toNat / 16 % 4) := spriteSide_eq (b 7) 4

/-- The two top bits of byte 7 need no mask. -/
theorem spriteOf_h : (spriteOf b).h = 8 * 2 ^ ((b 7).toNat / 64) := by
  have hbyte := (b 7).isLt
  have hfield : (b 7).toNat / 64 % 4 = (b 7).toNat / 64 := Nat.mod_eq_of_lt (by omega)
  rw [← hfield]
  exact spriteSide_eq (b 7) 6

theorem spriteOf_data : (spriteOf b).data = ((b 1).toNat % 16 * 256 + (b 0).toNat) * 32 :=
  congrArg (· * 32) (scroll_toNat (b 1) (b 0))

theorem spriteOf_mode8 : (spriteOf b).mode8 = decide (128 ≤ (b 1).toNat) := by
  have hbyte := (b 1).isLt
  refine (getLsbD_eq_decide (b 1) 7).trans (decide_eq_decide.mpr ?_)
  omega

theorem spriteOf_hflip : (spriteOf b).hflip = decide ((b 6).toNat % 2 = 1) :=
  (getLsbD_eq_decide (b 6) 0).trans (by rw [pow_zero, Nat.div_one])

theorem spriteOf_vflip : (spriteOf b).vflip = decide ((b 6).toNat / 2 % 2 = 1) := getLsbD_eq_decide (b 6) 1

theorem spriteOf_z_toNat : (spriteOf b).z.toNat = (b 6).toNat / 4 % 4 := toNat_extractLsb'_eq (b 6) 2 2

/-- The four top bits of byte 6 need no mask. -/
theorem spriteOf_mask_toNat : (spriteOf b).mask.toNat = (b 6).toNat / 16 := by
  have hbyte := (b 6).isLt
  refine (toNat_extractLsb'_eq (b 6) 4 4).trans ?_
  omega

theorem spriteOf_palOff_toNat : (spriteOf b).palOff.toNat = (b 7).toNat % 16 := by
  refine (toNat_extractLsb'_eq (b 7) 0 4).trans ?_
  rw [pow_zero, Nat.div_one]
  rfl

end

/-- A position is negative from where the sprite would end at 1024 or beyond. -/
theorem signedPosition_eq {p : BitVec 10} {n : Nat} (hp : p.toNat = n) (extent : Nat) :
    signedPosition p extent = if 1024 ≤ n + extent then (n : Int) - 1024 else n := by
  rw [signedPosition, hp]
  simp only [Nat.sub_le_iff_le_add]

theorem spriteOf_x (b : Nat → Byte) {x10 : Nat} (h : x10 = (b 3).toNat % 4 * 256 + (b 2).toNat) :
    (spriteOf b).x = if 1024 ≤ x10 + (spriteOf b).w then (x10 : Int) - 1024 else x10 :=
  signedPosition_eq ((tileNumber_toNat (b 2) (b 3)).trans h.symm) _

theorem spriteOf_y (b : Nat → Byte) {y10 : Nat} (h : y10 = (b 5).toNat % 4 * 256 + (b 4).toNat) :
    (spriteOf b).y = if 1024 ≤ y10 + (spriteOf b).h then (y10 : Int) - 1024 else y10 :=
  signedPosition_eq ((tileNumber_toNat (b 4) (b 5)).trans h.symm) _

/-! ## The unpacked row (R314) -/

theorem unpackRow_length (vram : Nat → Byte) (sp : Sprite) (row : Nat) : (unpackRow vram sp row).length = sp.w := by
  rw [unpackRow, List.length_map, List.length_range]

theorem unpackRow_getElem? (vram : Nat → Byte) {sp : Sprite} (row : Nat) {i : Nat} (hi : i < sp.w) :
    (unpackRow vram sp row)[i]? = some
      (if sp.mode8 then vram (row + i)
      else BitVec.ofNat 8
        (if i % 2 = 0 then (vram (row + i / 2)).toNat / 16 else (vram (row + i / 2)).toNat % 16)) := by
  rw [unpackRow, List.getElem?_map, List.getElem?_range hi, Option.map_some, highNibble_setWidth, lowNibble_setWidth,
    apply_ite (BitVec.ofNat 8)]

theorem spriteRowAddr_eq {sp : Sprite} {sy r : Nat} (hr : (r : Int) = sy - sp.y) :
    spriteRowAddr sp sy =
      sp.data + (if sp.vflip then sp.h - 1 - r else r) * (if sp.mode8 then sp.w else sp.w / 2) := by
  rw [spriteRowAddr, ← hr, Int.toNat_natCast]

/-- The row walked is the one whose bytes are `u`. -/
theorem renderSpriteRow_eq (vram : Nat → Byte) (view : LineView) {sp : Sprite} (w : SpriteWork) {u : List Byte}
    (hlength : u.length = sp.w)
    (hbytes : ∀ i < sp.w, u[i]? = (unpackRow vram sp (spriteRowAddr sp view.sy))[i]?) :
    renderSpriteRow vram view sp w =
      walkRow view sp u (List.range' view.hstart (min view.hstop 640 - view.hstart)) none w := by
  have hu : u = unpackRow vram sp (spriteRowAddr sp view.sy) := by
    apply List.ext_getElem?
    intro i
    by_cases hi : i < sp.w
    · exact hbytes i hi
    · rw [List.getElem?_eq_none (by omega), List.getElem?_eq_none (by rw [unpackRow_length]; omega)]
  rw [hu]
  rfl

/-! ## The charged walk of a row (R313, R314) -/

/-- A charge that leaves no budget ends the line. -/
theorem charge_of_le {k : Nat} {w : SpriteWork} (h : w.budget ≤ k) :
    charge k w = { w with budget := w.budget - k, stopped := true } := by
  rw [charge_eq, decide_eq_true (show w.budget - k ≤ 0 by omega)]

/-- A charge that leaves some budget takes its units and no more. -/
theorem charge_of_lt {k : Nat} {w : SpriteWork} (hw : w.stopped = false) (h : (k : Int) < w.budget) :
    charge k w = { w with budget := w.budget - k } := by
  rw [charge_eq, decide_eq_false (show ¬ w.budget - k ≤ 0 by omega), ← hw]

/-- The walk's work after the fetch at source pixel `i`: four units where it enters a new group. -/
def fetchGroup (group : Option Nat) (i : Nat) (w : SpriteWork) : SpriteWork :=
  if group = some (i / 4) then w else charge 4 w

section
variable (view : LineView) {sp : Sprite} (u : List Byte) {ox : Nat} (rest : List Nat) {group : Option Nat}
  {w : SpriteWork}

theorem walkRow_outside
    (h : (scaled view.hscale (ox - view.hstart) : Int) < sp.x ∨
      sp.x + sp.w ≤ scaled view.hscale (ox - view.hstart)) :
    walkRow view sp u (ox :: rest) group w = walkRow view sp u rest group w := by
  rw [walkRow]
  exact if_pos h

/-- Inside the sprite a column fetches, pays and draws. -/
theorem walkRow_inside {i : Nat} (hi : (scaled view.hscale (ox - view.hstart) : Int) = sp.x + i) (hw : i < sp.w) :
    walkRow view sp u (ox :: rest) group w =
      if (fetchGroup group i w).stopped then fetchGroup group i w
      else if (charge 1 (fetchGroup group i w)).stopped then charge 1 (fetchGroup group i w)
      else
        walkRow view sp u rest (some (i / 4))
          (drawSpritePixel sp ox (u.getD (if sp.hflip then sp.w - 1 - i else i) 0)
            (charge 1 (fetchGroup group i w))) := by
  have hindex : ((scaled view.hscale (ox - view.hstart) : Int) - sp.x).toNat = i := by omega
  rw [walkRow]
  dsimp only
  rw [if_neg (by omega), hindex]
  rfl

/-- A fetch that leaves no budget. -/
theorem fetchGroup_of_le {i : Nat} (hgroup : group ≠ some (i / 4)) (h : w.budget ≤ 4) :
    fetchGroup group i w = { w with budget := w.budget - 4, stopped := true } := by
  rw [fetchGroup, if_neg hgroup, charge_of_le h]
  rfl

/-- A fetch that leaves some budget, or costs nothing. -/
theorem fetchGroup_of_lt {i fetch : Nat} (hw : w.stopped = false)
    (hfetch : fetch = if group = some (i / 4) then 0 else 4) (h : fetch = 0 ∨ 4 < w.budget) :
    fetchGroup group i w = { w with budget := w.budget - fetch } := by
  rw [fetchGroup]
  split at hfetch
  case isTrue hgroup =>
    rw [if_pos hgroup, hfetch, Nat.cast_zero, sub_zero]
  case isFalse hgroup =>
    rw [if_neg hgroup, hfetch]
    exact charge_of_lt hw (by omega)

section
variable {i fetch : Nat} (hi : (scaled view.hscale (ox - view.hstart) : Int) = sp.x + i) (hiw : i < sp.w)
  (hw : w.stopped = false) (hfetch : fetch = if group = some (i / 4) then 0 else 4)
include hi hiw

theorem walkRow_fetch_exhausted (hgroup : group ≠ some (i / 4)) (h : w.budget ≤ 4) :
    walkRow view sp u (ox :: rest) group w = { w with budget := w.budget - 4, stopped := true } := by
  rw [walkRow_inside view u rest hi hiw, fetchGroup_of_le hgroup h]
  rfl

include hw hfetch

theorem walkRow_pixel_exhausted (hpaid : fetch = 0 ∨ 4 < w.budget) (h : w.budget - fetch ≤ 1) :
    walkRow view sp u (ox :: rest) group w = { w with budget := w.budget - fetch - 1, stopped := true } := by
  have hcharge : charge 1 (fetchGroup group i w) = { w with budget := w.budget - fetch - 1, stopped := true } := by
    rw [fetchGroup_of_lt hw hfetch hpaid]
    exact charge_of_le h
  have hfetched : (fetchGroup group i w).stopped = false := by rw [fetchGroup_of_lt hw hfetch hpaid, ← hw]
  rw [walkRow_inside view u rest hi hiw, hcharge, hfetched]
  rfl

theorem walkRow_drawn (h : 1 < w.budget - fetch) :
    walkRow view sp u (ox :: rest) group w =
      walkRow view sp u rest (some (i / 4))
        (drawSpritePixel sp ox (u.getD (if sp.hflip then sp.w - 1 - i else i) 0)
          { w with budget := w.budget - fetch - 1 }) := by
  have hpaid : fetch = 0 ∨ 4 < w.budget := by
    split at hfetch
    · exact .inl hfetch
    · exact .inr (by omega)
  have hfetched : (fetchGroup group i w).stopped = false := by rw [fetchGroup_of_lt hw hfetch hpaid, ← hw]
  have hcharge : charge 1 (fetchGroup group i w) = { w with budget := w.budget - fetch - 1 } := by
    rw [fetchGroup_of_lt hw hfetch hpaid]
    exact charge_of_lt hw h
  rw [walkRow_inside view u rest hi hiw, hcharge, hfetched, hw]
  rfl

end
end

/-! ## A sprite's pixel (R315, R316) -/

/-- Colour 0 draws nothing. -/
theorem drawSpritePixel_zero (sp : Sprite) (ox : Nat) (w : SpriteWork) : drawSpritePixel sp ox 0 w = w := if_pos rfl

/-- Any other colour collides with the masks there, and takes the pixel from a strictly lower z-depth. -/
theorem drawSpritePixel_visible (sp : Sprite) {ox : Nat} {col : Byte} {w : SpriteWork} {old : SpritePixel}
    (hold : w.row[ox]? = some old) (hcol : col ≠ 0) :
    drawSpritePixel sp ox col w =
      { w with
        coll := w.coll ||| (old.mask &&& sp.mask)
        row := w.row.set ox
          { col := if old.z < sp.z then palOffset col sp.palOff else old.col
            z := if old.z < sp.z then sp.z else old.z
            mask := old.mask ||| sp.mask } } := by
  rw [drawSpritePixel, if_neg hcol, List.getD_eq_getElem?_getD, hold]
  rfl

/-- A pixel drawn at `ox` leaves the others. -/
theorem drawSpritePixel_row_ne (sp : Sprite) {ox j : Nat} (hj : j ≠ ox) (col : Byte) (w : SpriteWork) :
    (drawSpritePixel sp ox col w).row[j]? = w.row[j]? := by
  rw [drawSpritePixel]
  split
  · rfl
  · exact List.getElem?_set_ne hj.symm

/-! ## The obligation (O59) -/

/-- Settles O59: the record's fields, the row the walk is given, the four outcomes of a column, and the pixel. -/
theorem spritePixelRule : Obligations.SpritePixelRule := by
  refine ⟨?geometry, ?row, ?walk, ?pixel⟩
  case geometry =>
    rintro b _ x10 y10 rfl hx hy
    exact ⟨spriteOf_data b, spriteOf_mode8 b, spriteOf_w b, spriteOf_h b, spriteOf_x b hx, spriteOf_y b hy,
      spriteOf_hflip b, spriteOf_vflip b, spriteOf_z_toNat b, spriteOf_mask_toNat b, spriteOf_palOff_toNat b⟩
  case row =>
    rintro vram view sp w u r _ hr hlength rfl hbytes
    refine renderSpriteRow_eq vram view w hlength fun i hi => ?_
    rw [hbytes i hi, unpackRow_getElem? vram _ hi, spriteRowAddr_eq hr]
  case walk =>
    rintro view sp u ox _ rest group w hw rfl
    refine ⟨by rw [walkRow], fun h => walkRow_outside view u rest h, fun i fetch hi hiw hfetch => ⟨?_, ?_, ?_⟩⟩
    · intro hfour h
      have hgroup : group ≠ some (i / 4) := fun hsame => by simp [hsame, hfour] at hfetch
      exact walkRow_fetch_exhausted view u rest hi hiw hgroup h
    · exact walkRow_pixel_exhausted view u rest hi hiw hw hfetch
    · exact walkRow_drawn view u rest hi hiw hw hfetch
  case pixel =>
    intro sp ox col w old hold
    refine ⟨?_, ?_, fun j hj => drawSpritePixel_row_ne sp hj col w⟩
    · rintro rfl
      exact drawSpritePixel_zero sp ox w
    · intro hcol
      have hox : ox < w.row.length := (List.getElem?_eq_some_iff.mp hold).1
      rw [drawSpritePixel_visible sp hold hcol]
      refine ⟨rfl, rfl, rfl, _, List.getElem?_set_self hox, rfl, fun hle => ?_, fun hlt => ?_⟩
      · exact ⟨if_neg (BitVec.not_lt.mpr hle), if_neg (BitVec.not_lt.mpr hle)⟩
      · exact ⟨if_pos hlt, if_pos hlt⟩

end Sys2Proof.Machine
end

section
/-! Proofs of the sprite family, the line ends (spec/47_scan_timing.md R352 to R355, R360, R361): what a tick does to
the framebuffer, the collision accumulator and the interrupt status (O53, O54). -/

namespace Sys2Proof.Machine

/-! ## The interrupt events of a line's end -/

@[simp] theorem frameBoundary_isr (s : State) :
    (frameBoundary s).isr =
      { vsync := true, line := s.isr.line, sprCol := s.isr.sprCol || decide (s.collAcc ≠ 0), coll := s.collAcc } := by
  have hbne : (s.collAcc != 0) = decide (s.collAcc ≠ 0) := Bool.eq_iff_iff.mpr (by simp)
  rw [← hbne]
  rfl

@[simp] theorem frameBoundary_collAcc (s : State) : (frameBoundary s).collAcc = 0 := rfl
@[simp] theorem frameBoundary_fb (s : State) : (frameBoundary s).fb = s.fb := rfl

/-- The line compare raises the line interrupt on a visible line with the compare value's number, and no other. -/
theorem lineCompare_isr {line : Int} {compare : BitVec 9} {hit : Prop} [Decidable hit]
    (hhit : (0 ≤ line ∧ line < screenH ∧ line = compare.toNat) ↔ hit) (s : State) :
    (lineCompare line compare s).isr = { s.isr with line := s.isr.line || decide hit } := by
  unfold lineCompare
  split
  case isTrue h =>
    rw [decide_eq_true (hhit.mp h), Bool.or_true]
    rfl
  case isFalse h => rw [decide_eq_false (fun hp => h (hhit.mpr hp)), Bool.or_false]

@[simp] theorem lineCompare_collAcc (line : Int) (compare : BitVec 9) (s : State) :
    (lineCompare line compare s).collAcc = s.collAcc := by
  unfold lineCompare
  split <;> rfl

@[simp] theorem lineCompare_fb (line : Int) (compare : BitVec 9) (s : State) :
    (lineCompare line compare s).fb = s.fb := (lineCompare_signals line compare s).fb_eq

@[simp] theorem lineCompare_scan (line : Int) (compare : BitVec 9) (s : State) :
    (lineCompare line compare s).scan = s.scan := (lineCompare_signals line compare s).scan_eq

/-- A line above the screen compares with nothing. -/
theorem lineCompare_of_neg {line : Int} (h : line < 0) (compare : BitVec 9) (s : State) :
    lineCompare line compare s = s := if_neg (by omega)

theorem RendersOnly.isr_eq {s t : State} (h : RendersOnly s t) : t.isr = s.isr := by rw [h.rest]

/-- Lines from 480 on render nothing (R330). -/
theorem renderLine_of_le {y : Nat} (h : screenH ≤ y) (s : State) : renderLine y s = s := if_pos h

/-! ## The raster that is not active -/

@[simp] theorem State.setScan_ntscActive (s : State) (x : Scan) : (s.setScan x).ntscActive = s.ntscActive := rfl

theorem TicksOnly.ntscActive_eq {s t : State} (h : TicksOnly s t) : t.ntscActive = s.ntscActive := by rw [h.rest]; rfl

/-- With the NTSC raster active the VGA raster only counts. -/
theorem tickVga_inactive {s : State} (h : s.ntscActive = true) :
    tickVga s = (s.setScan s.scan.nextVga, false) := by
  unfold tickVga Scan.nextVga
  split
  · simp [endVgaLine, boundaryIf, h]
  · rfl

/-- With the VGA raster active the NTSC raster only counts. -/
theorem tickNtsc_inactive {s : State} (h : s.ntscActive = false) :
    tickNtsc s = (s.setScan (s.scan.nextNtsc s.cfg.ntscHalfW), false) := by
  unfold tickNtsc Scan.nextNtsc
  split
  · simp [endHalfLine, boundaryIf, h]
  · rfl

theorem tick_of_vgaActive {s : State} (h : s.ntscActive = false) :
    tick s =
      ((tickVga s).1.setScan ((tickVga s).1.scan.nextNtsc (tickVga s).1.cfg.ntscHalfW), (tickVga s).2) := by
  rw [tick, tickNtsc_inactive ((tickVga_ticks s).ntscActive_eq.trans h), Bool.or_false]

theorem tick_of_ntscActive {s : State} (h : s.ntscActive = true) :
    tick s = tickNtsc (s.setScan s.scan.nextVga) := by
  rw [tick, tickVga_inactive h, Bool.false_or]

/-! ## The active VGA raster (O53) -/

section
variable {s : State} (hactive : s.ntscActive = false)
include hactive

/-- The last line is not visible, so its end is the frame boundary and the compare of line 0 (R354). -/
theorem endVgaLine_wrap (hy : s.scan.vgaY = 524) :
    endVgaLine s =
      (lineCompare 0 s.irqLine (frameBoundary (s.setScan { s.scan with vgaX := 0, vgaY := 0 })), true) := by
  have hrender : renderLine 524 s = s := renderLine_of_le (by decide) s
  simp [endVgaLine, boundaryIf, hactive, hy, hrender]

/-- Any other line's end renders it and compares the next one (R354). -/
theorem endVgaLine_line (hy : s.scan.vgaY < 524) :
    endVgaLine s =
      (lineCompare (s.scan.vgaY + 1 : Nat) s.irqLine
        ((renderLine s.scan.vgaY s).setScan { s.scan with vgaX := 0, vgaY := s.scan.vgaY + 1 }), false) := by
  have hnot : s.scan.vgaY + 1 ≠ 525 := by omega
  simp [endVgaLine, hactive, hnot, (renderLine_renders s.scan.vgaY s).scan_eq]

end

/-- The compare of a line of the VGA raster, whose numbers are natural. -/
theorem vgaLine_matches_iff (y : Nat) (irqLine : BitVec 9) :
    (0 ≤ (y : Int) ∧ (y : Int) < screenH ∧ (y : Int) = irqLine.toNat) ↔ y < 480 ∧ irqLine.toNat = y := by
  rw [screenH]
  omega

/-- Settles O53: the wrap, another line's end, and a tick within a line. -/
theorem vgaLineEnds : Obligations.VgaLineEnds := by
  intro s hactive
  have htick := tick_of_vgaActive hactive
  refine ⟨fun hx hy => ?wrap, fun hx hy => ?line, fun hx => ?within⟩
  case wrap =>
    have hend : tickVga s = _ := (if_pos (by rw [hx])).trans (endVgaLine_wrap hactive hy)
    have hcompare : (0 ≤ (0 : Int) ∧ (0 : Int) < screenH ∧ (0 : Int) = s.irqLine.toNat) ↔ s.irqLine.toNat = 0 :=
      (vgaLine_matches_iff 0 s.irqLine).trans (and_iff_right (by decide))
    rw [htick, hend]
    refine ⟨rfl, ?_, ?_, ?_⟩
    · rw [State.setScan_collAcc, lineCompare_collAcc, frameBoundary_collAcc]
    · rw [State.setScan_fb, lineCompare_fb, frameBoundary_fb, State.setScan_fb]
    · rw [State.setScan_isr, lineCompare_isr hcompare, frameBoundary_isr]
      rfl
  case line =>
    have hend : tickVga s = _ := (if_pos (by rw [hx])).trans (endVgaLine_line hactive hy)
    rw [htick, hend]
    refine ⟨rfl, ?_, ?_, ?_⟩
    · rw [State.setScan_fb, lineCompare_fb, State.setScan_fb]
    · rw [State.setScan_collAcc, lineCompare_collAcc, State.setScan_collAcc]
    · rw [State.setScan_isr, lineCompare_isr (vgaLine_matches_iff (s.scan.vgaY + 1) s.irqLine), State.setScan_isr,
        (renderLine_renders s.scan.vgaY s).isr_eq]
  case within =>
    have hend : tickVga s = _ := if_neg (by omega)
    rw [htick, hend]
    exact ⟨rfl, rfl, rfl, rfl⟩

/-! ## The active NTSC raster (O54) -/

/-- A render does not look at the counters, and keeps them. -/
theorem renderLine_setScan (y : Nat) (s : State) (x : Scan) :
    renderLine y (s.setScan x) = (renderLine y s).setScan x := by
  unfold renderLine
  split
  · rfl
  · rw [State.setScan_inputs]
    split
    · unfold renderSkipped
      rw [apply_ite (State.setScan x)]
      rfl
    · unfold renderFull
      dsimp only
      rw [apply_ite (State.setScan x), apply_ite (State.setScan x)]
      rfl

/-- What the end of half-line `y` renders with the default offsets 42 and 568. -/
def renderDefaultHalfLine (y : Nat) (s : State) : State :=
  if 42 ≤ y ∧ y < 522 ∧ y % 2 = 0 then renderLine (y - 42) s
  else if 568 ≤ y ∧ y < 1048 ∧ y % 2 = 0 then renderLine (y - 568 + 1) s
  else s

theorem renderDefaultHalfLine_setScan (y : Nat) (s : State) (x : Scan) :
    renderDefaultHalfLine y (s.setScan x) = (renderDefaultHalfLine y s).setScan x := by
  unfold renderDefaultHalfLine
  rw [renderLine_setScan, renderLine_setScan, apply_ite (State.setScan x), apply_ite (State.setScan x)]

theorem renderDefaultHalfLine_of_fieldEnd {y : Nat} (hy : y = 524 ∨ y = 1049) (s : State) :
    renderDefaultHalfLine y s = s := by
  rw [renderDefaultHalfLine, if_neg (by omega), if_neg (by omega)]

/-- Both offsets are even, and the visible ranges of the two fields lie on either side of half-line 525. -/
theorem renderHalfLine_default {s : State} (hlow : s.cfg.ntscYOffLow = 42) (hhigh : s.cfg.ntscYOffHigh = 568) :
    renderHalfLine s = renderDefaultHalfLine s.scan.ntscY s := by
  rw [renderHalfLine, renderDefaultHalfLine, fieldOffset, hlow, hhigh, screenH]
  generalize s.scan.ntscY = y
  by_cases hfield : y < 525
  · have hhighField : ¬ (568 ≤ y ∧ y < 1048 ∧ y % 2 = 0) := by omega
    have hline : ((y : Int) - (42 : Nat)).toNat = y - 42 := by omega
    rw [if_pos hfield, if_pos hfield, if_neg hhighField, hline]
    exact if_congr (by omega) rfl rfl
  · have hlowField : ¬ (42 ≤ y ∧ y < 522 ∧ y % 2 = 0) := by omega
    have hline : ((y : Int) - (568 : Nat)).toNat = y - 568 := by omega
    rw [if_neg hfield, if_neg hfield, if_neg hlowField, hline]
    exact if_congr (by omega) rfl rfl

/-- A compare value with its bit 0 replaced by that of the field. -/
theorem toNat_replaceBit0 (irqLine : BitVec 9) (bit : BitVec 1) :
    (irqLine.extractLsb' 1 8 ++ bit).toNat = irqLine.toNat / 2 * 2 + bit.toNat := by
  have hvalue := irqLine.isLt
  rw [toNat_append_eq, toNat_extractLsb'_eq]
  omega

/-- The low field compares with the compare value made even. -/
theorem fieldCompare_low {y : Nat} (h : y < 525) (irqLine : BitVec 9) :
    (fieldCompare irqLine y).toNat = irqLine.toNat / 2 * 2 := by
  have hmask : ∀ i : Fin 9, (0x1FE#9).getLsbD i = decide (1 ≤ i.val) := by decide
  have hbits : irqLine &&& 0x1FE#9 = irqLine.extractLsb' 1 8 ++ 0#1 := by
    refine BitVec.eq_of_getLsbD_eq fun i hi => ?_
    rw [BitVec.getLsbD_and, hmask ⟨i, hi⟩, BitVec.getLsbD_append, BitVec.getLsbD_extractLsb']
    grind
  rw [fieldCompare, if_pos h, hbits]
  exact toNat_replaceBit0 irqLine 0#1

/-- The high field compares with the compare value made odd. -/
theorem fieldCompare_high {y : Nat} (h : ¬ y < 525) (irqLine : BitVec 9) :
    (fieldCompare irqLine y).toNat = irqLine.toNat / 2 * 2 + 1 := by
  have hmask : ∀ i : Fin 9, (1#9).getLsbD i = decide (i.val < 1) := by decide
  have hbits : irqLine ||| 1#9 = irqLine.extractLsb' 1 8 ++ 1#1 := by
    refine BitVec.eq_of_getLsbD_eq fun i hi => ?_
    rw [BitVec.getLsbD_or, hmask ⟨i, hi⟩, BitVec.getLsbD_append, BitVec.getLsbD_extractLsb']
    grind
  rw [fieldCompare, if_neg h, hbits]
  exact toNat_replaceBit0 irqLine 1#1

/-- The half-lines at which the compare matches with the default offsets. -/
theorem halfLine_matches_iff {cfg : Config} (hlow : cfg.ntscYOffLow = 42) (hhigh : cfg.ntscYOffHigh = 568)
    (irqLine : BitVec 9) (y : Nat) :
    (0 ≤ fieldOffset cfg y ∧ fieldOffset cfg y < screenH ∧ fieldOffset cfg y = (fieldCompare irqLine y).toNat) ↔
      (y < 522 ∧ y = 42 + irqLine.toNat / 2 * 2 ∨ y < 1048 ∧ y = 568 + (irqLine.toNat / 2 * 2 + 1)) := by
  rw [fieldOffset, hlow, hhigh, screenH]
  by_cases hfield : y < 525
  · rw [if_pos hfield, fieldCompare_low hfield]
    omega
  · rw [if_neg hfield, fieldCompare_high hfield]
    omega

section
variable {s : State} (hactive : s.ntscActive = true)
include hactive

/-- The end of a field, whose next half-line is above the screen with the default offsets (R355). -/
theorem endHalfLine_fieldEnd (hlow : s.cfg.ntscYOffLow = 42) (hhigh : s.cfg.ntscYOffHigh = 568)
    (hy : s.scan.ntscY = 524 ∨ s.scan.ntscY = 1049) :
    endHalfLine s =
      (frameBoundary (s.setScan
        { s.scan with
          ntscX := 0
          ntscY := if s.scan.ntscY = 524 then 525 else 0
          field := decide (s.scan.ntscY = 524) }), true) := by
  have hrender : renderHalfLine s = s := by
    rw [renderHalfLine_default hlow hhigh, renderDefaultHalfLine_of_fieldEnd hy]
  rcases hy with hy | hy <;>
    simp [endHalfLine, boundaryIf, hactive, hrender, hy, fieldOffset, hlow, hhigh, lineCompare_of_neg]

/-- The end of any other half-line renders it and compares the next one (R355). -/
theorem endHalfLine_line (hlow : s.scan.ntscY ≠ 524) (hhigh : s.scan.ntscY ≠ 1049) :
    endHalfLine s =
      (lineCompare (fieldOffset s.cfg (s.scan.ntscY + 1)) (fieldCompare s.irqLine (s.scan.ntscY + 1))
        ((renderHalfLine s).setScan { s.scan with ntscX := 0, ntscY := s.scan.ntscY + 1 }), false) := by
  simp [endHalfLine, hactive, hlow, hhigh, (renderHalfLine_renders s).scan_eq]

end

/-! ## The obligation (O54) -/

theorem nextVga_ntscX (x : Scan) : x.nextVga.ntscX = x.ntscX := by
  unfold Scan.nextVga
  split <;> rfl

theorem nextVga_ntscY (x : Scan) : x.nextVga.ntscY = x.ntscY := by
  unfold Scan.nextVga
  split <;> rfl

theorem nextVga_field (x : Scan) : x.nextVga.field = x.field := by
  unfold Scan.nextVga
  split <;> rfl

/-- The VGA raster's count before it does not matter to the half-line's render. -/
theorem renderHalfLine_afterVga {s : State} (hlow : s.cfg.ntscYOffLow = 42) (hhigh : s.cfg.ntscYOffHigh = 568) :
    renderHalfLine (s.setScan s.scan.nextVga) = (renderDefaultHalfLine s.scan.ntscY s).setScan s.scan.nextVga := by
  rw [renderHalfLine_default (s := s.setScan s.scan.nextVga) hlow hhigh, State.setScan_scan, nextVga_ntscY,
    renderDefaultHalfLine_setScan]

section
variable {s : State} (hactive : s.ntscActive = true)
include hactive

/-- A tick that ends no half-line. -/
theorem tick_withinHalfLine (hx : s.scan.ntscX + 1 ≠ s.cfg.ntscHalfW) :
    tick s = (s.setScan { s.scan.nextVga with ntscX := s.scan.nextVga.ntscX + 1 }, false) := by
  have hwithin : ¬ s.scan.nextVga.ntscX + 1 = s.cfg.ntscHalfW := by rwa [nextVga_ntscX]
  rw [tick_of_ntscActive hactive]
  exact if_neg hwithin

theorem tick_halfLineEnd (hx : s.scan.ntscX + 1 = s.cfg.ntscHalfW) :
    tick s = endHalfLine (s.setScan s.scan.nextVga) := by
  have hend : s.scan.nextVga.ntscX + 1 = s.cfg.ntscHalfW := by rwa [nextVga_ntscX]
  rw [tick_of_ntscActive hactive]
  exact if_pos hend

section
variable (hx : s.scan.ntscX + 1 = s.cfg.ntscHalfW) (hlow : s.cfg.ntscYOffLow = 42)
  (hhigh : s.cfg.ntscYOffHigh = 568)
include hx hlow hhigh

/-- A tick at a half-line's end leaves the framebuffer as the half-line's render leaves it. -/
theorem tick_halfLineEnd_fb : (tick s).1.fb = (renderDefaultHalfLine s.scan.ntscY s).fb := by
  rw [tick_halfLineEnd hactive hx, (endHalfLine_beam _).2, State.setScan_ntscActive, if_pos hactive,
    renderHalfLine_afterVga hlow hhigh, State.setScan_fb]

/-- The tick that ends a field. -/
theorem tick_fieldEnd (hy : s.scan.ntscY = 524 ∨ s.scan.ntscY = 1049) :
    (tick s).2 = true ∧ (tick s).1.collAcc = 0 ∧ (tick s).1.scan.field = decide (s.scan.ntscY = 524) ∧
      (tick s).1.isr = { vsync := true, line := s.isr.line
                         sprCol := s.isr.sprCol || decide (s.collAcc ≠ 0), coll := s.collAcc } := by
  have hend : s.scan.nextVga.ntscY = 524 ∨ s.scan.nextVga.ntscY = 1049 := by rwa [nextVga_ntscY]
  rw [tick_halfLineEnd hactive hx, endHalfLine_fieldEnd (s := s.setScan s.scan.nextVga) hactive hlow hhigh hend,
    ← nextVga_ntscY s.scan]
  exact ⟨rfl, rfl, rfl, frameBoundary_isr _⟩

/-- The tick that ends a half-line within a field. -/
theorem tick_lineEnd (hnotLow : s.scan.ntscY ≠ 524) (hnotHigh : s.scan.ntscY ≠ 1049) :
    (tick s).2 = false ∧ (tick s).1.collAcc = (renderDefaultHalfLine s.scan.ntscY s).collAcc ∧
      (tick s).1.scan.field = s.scan.field ∧
      (tick s).1.isr = { s.isr with
        line := s.isr.line ||
          decide (s.scan.ntscY + 1 < 522 ∧ s.scan.ntscY + 1 = 42 + s.irqLine.toNat / 2 * 2 ∨
            s.scan.ntscY + 1 < 1048 ∧ s.scan.ntscY + 1 = 568 + (s.irqLine.toNat / 2 * 2 + 1)) } := by
  have hrendered := renderHalfLine_renders (s.setScan s.scan.nextVga)
  rw [tick_halfLineEnd hactive hx,
    endHalfLine_line (s := s.setScan s.scan.nextVga) hactive (by rwa [State.setScan_scan, nextVga_ntscY])
      (by rwa [State.setScan_scan, nextVga_ntscY])]
  refine ⟨rfl, ?_, ?_, ?_⟩
  · rw [lineCompare_collAcc, State.setScan_collAcc, renderHalfLine_afterVga hlow hhigh, State.setScan_collAcc]
  · rw [lineCompare_scan]
    exact nextVga_field s.scan
  · rw [State.setScan_cfg, State.setScan_irqLine, State.setScan_scan, nextVga_ntscY,
      lineCompare_isr (halfLine_matches_iff hlow hhigh _ _), State.setScan_isr, hrendered.isr_eq, State.setScan_isr]

end
end

/-- Settles O54: the render of a half-line's end, the end of a field, any other half-line's end, and a tick within a
half-line. -/
theorem ntscHalfLineEnds : Obligations.NtscHalfLineEnds := by
  rintro s _ hactive rfl
  refine ⟨fun hx _ hlow hhigh => ⟨?rendered, fun hy => ?fieldEnd, fun hnotLow hnotHigh => ?line⟩,
    fun hx => ?within⟩
  case rendered =>
    rintro _ rfl
    refine ⟨tick_halfLineEnd_fb hactive hx hlow hhigh, fun hnotLow hnotHigh => ?_⟩
    obtain ⟨-, hcollAcc, -, -⟩ := tick_lineEnd hactive hx hlow hhigh hnotLow hnotHigh
    exact hcollAcc
  case fieldEnd =>
    obtain ⟨hframe, hcollAcc, hfield, hisr⟩ := tick_fieldEnd hactive hx hlow hhigh hy
    have hfb : (tick s).1.fb = s.fb := by
      rw [tick_halfLineEnd_fb hactive hx hlow hhigh, renderDefaultHalfLine_of_fieldEnd hy]
    exact ⟨hframe, hfb, hcollAcc, hfield, hisr⟩
  case line =>
    obtain ⟨hframe, -, hfield, hisr⟩ := tick_lineEnd hactive hx hlow hhigh hnotLow hnotHigh
    exact ⟨hframe, hfield, hisr⟩
  case within =>
    rw [tick_withinHalfLine hactive hx]
    exact ⟨rfl, rfl, rfl, rfl⟩

end Sys2Proof.Machine
end

section
/-! Proofs of the compositor family (spec/46_compositor_palette.md): the colours of a rendered line, its bytes in the
framebuffer, and what the render leaves elsewhere (O56). -/

namespace Sys2Proof.Machine

/-! ## A line written whole (R47, R389) -/

@[simp] theorem State.setCollAcc_fbByte (s : State) (c : BitVec 4) (k : Nat) :
    (s.setCollAcc c).fbByte k = s.fbByte k := rfl

/-- Storing the collision bits that stand there changes nothing. -/
theorem State.setCollAcc_self (s : State) : s.setCollAcc s.collAcc = s := rfl

/-- A line written whole answers for its own 2560 bytes, the framebuffer before it for every other. -/
theorem State.putLine_fbByte (y : Nat) (bytes : List Byte) (s : State) (k : Nat) :
    (s.putLine y bytes).fbByte k =
      if k / lineBytes = y then bytes.getD (k % lineBytes) 0 else s.fbByte k := by
  rw [State.fbByte, State.putLine, State.setFb_fb, FrameLines.get_put]
  by_cases hline : k / lineBytes = y
  · rw [if_pos hline, if_pos hline]
  · rw [if_neg hline, if_neg hline]
    rfl

theorem State.putLine_fbByte_of_other_line {y k : Nat} (hk : k / 2560 ≠ y) (bytes : List Byte) (s : State) :
    (s.putLine y bytes).fbByte k = s.fbByte k :=
  (State.putLine_fbByte y bytes s k).trans (if_neg hk)

/-- Byte `k` of pixel `(x, y)` lies at offset `4 * (640 * y + x) + k`. -/
theorem State.putLine_fbByte_pixel (y : Nat) (colour : Nat → Rgb) (s : State) {x k : Nat}
    (hx : x < 640) (hk : k < 4) :
    (s.putLine y (lineOf colour)).fbByte (4 * (640 * y + x) + k) = (pixelBytes (colour x)).getD k 0 := by
  have hline : (4 * (640 * y + x) + k) / lineBytes = y := by unfold lineBytes; omega
  have hoffset : (4 * (640 * y + x) + k) % lineBytes = 4 * x + k := by unfold lineBytes; omega
  rw [State.putLine_fbByte, if_pos hline, hoffset, List.getD_eq_getElem?_getD, lineOf_getElem? colour hx hk,
    List.getD_eq_getElem?_getD]

/-! ## The active area (R335) -/

theorem inActiveRows_iff (s : State) (y : Nat) :
    inActiveRows s y = true ↔ s.comp[6].toNat * 2 ≤ y ∧ y < s.comp[7].toNat * 2 := by
  rw [inActiveRows, Bool.and_eq_true, decide_eq_true_eq, decide_eq_true_eq]
  rfl

theorem inActiveColumns_iff (s : State) (x : Nat) :
    inActiveColumns s x = true ↔ s.comp[4].toNat * 4 ≤ x ∧ x < s.comp[5].toNat * 4 := by
  rw [inActiveColumns, Bool.and_eq_true, decide_eq_true_eq, decide_eq_true_eq]
  rfl

/-! ## The line a render writes (R330, R336) -/

/-- The colour a render of line `y` gives column `x`. -/
def lineColour (y : Nat) (s : State) (x : Nat) : Rgb :=
  if s.outMode = 0 then rgbOfNumber s.cfg.disabledColor
  else if inActiveRows s y then
    paletteRgb s (activeIndex s (logicalY s y) (spriteLine s (logicalY s y)).row x)
  else paletteRgb s s.comp[3]

/-- The collision accumulator after a render of line `y`. -/
def lineCollAcc (y : Nat) (s : State) : BitVec 4 :=
  if s.outMode ≠ 0 ∧ inActiveRows s y then (spriteLine s (logicalY s y)).coll else s.collAcc

section
variable {s : State} {y : Nat}

theorem lineColour_of_disabled (hmode : s.outMode = 0) :
    lineColour y s = fun _ => rgbOfNumber s.cfg.disabledColor := funext fun _ => if_pos hmode

theorem lineColour_of_inActiveRows (hmode : s.outMode ≠ 0) (hrows : inActiveRows s y = true) :
    lineColour y s = fun x => paletteRgb s (activeIndex s (logicalY s y) (spriteLine s (logicalY s y)).row x) :=
  funext fun _ => (if_neg hmode).trans (if_pos hrows)

theorem lineColour_of_not_inActiveRows (hmode : s.outMode ≠ 0) (hrows : ¬ inActiveRows s y = true) :
    lineColour y s = fun _ => paletteRgb s s.comp[3] :=
  funext fun _ => (if_neg hmode).trans (if_neg hrows)

/-- A render of a visible line writes its colours and its collision bits, and nothing else. -/
theorem renderLine_eq_putLine (hy : y < 480) (hskip : s.inputs.skip = false) :
    renderLine y s = (s.setCollAcc (lineCollAcc y s)).putLine y (lineOf (lineColour y s)) := by
  have hvisible : ¬ screenH ≤ y := Nat.not_le.mpr hy
  rw [renderLine, if_neg hvisible, hskip, if_neg Bool.false_ne_true, renderFull]
  by_cases hmode : s.outMode = 0
  · rw [if_pos hmode, lineColour_of_disabled hmode, lineCollAcc, if_neg fun h => h.1 hmode, State.setCollAcc_self]
  · rw [if_neg hmode]
    by_cases hrows : inActiveRows s y = true
    · rw [if_pos hrows, lineColour_of_inActiveRows hmode hrows, lineCollAcc, if_pos ⟨hmode, hrows⟩]
    · rw [if_neg hrows, lineColour_of_not_inActiveRows hmode hrows, lineCollAcc, if_neg fun h => hrows h.2,
        State.setCollAcc_self]

variable {x : Nat}

/-- Above, below, left and right of the active area. -/
theorem lineColour_of_border (hmode : s.outMode ≠ 0)
    (hout : ¬ (inActiveColumns s x = true ∧ inActiveRows s y = true)) :
    lineColour y s x = paletteRgb s s.comp[3] := by
  by_cases hrows : inActiveRows s y = true
  · have hborder : activeIndex s (logicalY s y) (spriteLine s (logicalY s y)).row x = s.comp[3] :=
      if_neg fun hcolumns => hout ⟨hcolumns, hrows⟩
    exact (congrFun (lineColour_of_inActiveRows hmode hrows) x).trans (congrArg (paletteRgb s) hborder)
  · rw [lineColour_of_not_inActiveRows hmode hrows]

/-- Inside the active area, with `sp` the pixel of the sprite line. -/
theorem lineColour_of_active (hmode : s.outMode ≠ 0) (hcolumns : inActiveColumns s x = true)
    (hrows : inActiveRows s y = true) {sp : SpritePixel}
    (hsp : sp = (spriteLine s (logicalY s y)).row.getD x {}) :
    lineColour y s x =
      paletteRgb s (merge sp.z sp.col (layer0Colour s (logicalX s x) (logicalY s y))
        (layer1Colour s (logicalX s x) (logicalY s y))) := by
  subst hsp
  exact (congrFun (lineColour_of_inActiveRows hmode hrows) x).trans (congrArg (paletteRgb s) (if_pos hcolumns))

/-- The sprite line counts on the lines of the active rows alone, whatever the column. -/
theorem lineCollAcc_eq :
    lineCollAcc y s =
      if s.outMode ≠ 0 ∧ s.comp[6].toNat * 2 ≤ y ∧ y < s.comp[7].toNat * 2 then
        (spriteLine s (s.comp[2].toNat * (y - s.comp[6].toNat * 2) / 128)).coll
      else s.collAcc := by
  simp only [lineCollAcc, inActiveRows_iff]
  rfl

end

/-! ## The obligation (O56) -/

/-- Settles O56: the colour of the pixel in its three cases, its four bytes, and the line written whole. -/
theorem renderedPixels : Obligations.RenderedPixels := by
  intro s y x rgb hy hx hskip hdisabled hborder hactive
  have hcolour : rgb = lineColour y s x := by
    by_cases hmode : s.outMode = 0
    · exact (hdisabled hmode).trans (congrFun (lineColour_of_disabled hmode) x).symm
    by_cases hin : inActiveColumns s x = true ∧ inActiveRows s y = true
    · obtain ⟨hcolumns, hrows⟩ := hin
      obtain ⟨hleft, hright⟩ := (inActiveColumns_iff s x).mp hcolumns
      obtain ⟨htop, hbottom⟩ := (inActiveRows_iff s y).mp hrows
      rw [lineColour_of_active hmode hcolumns hrows rfl]
      exact hactive hmode hleft hright htop hbottom _ _ _ rfl rfl rfl
    · rw [lineColour_of_border hmode hin]
      refine hborder hmode fun ⟨hleft, hright, htop, hbottom⟩ => hin ?_
      exact ⟨(inActiveColumns_iff s x).mpr ⟨hleft, hright⟩, (inActiveRows_iff s y).mpr ⟨htop, hbottom⟩⟩
  have hbyte (k : Nat) (hk : k < 4) :
      (renderLine y s).fbByte (4 * (640 * y + x) + k) = (pixelBytes rgb).getD k 0 := by
    rw [renderLine_eq_putLine hy hskip, State.putLine_fbByte_pixel y _ _ hx hk, ← hcolour]
  refine ⟨hbyte 0 (by decide), hbyte 1 (by decide), hbyte 2 (by decide), hbyte 3 (by decide), fun k hk => ?_,
    ⟨_, rfl, (renderLine_renders y s).rest, ?_⟩, fun z hz => renderLine_of_le hz s⟩
  · rw [renderLine_eq_putLine hy hskip, State.putLine_fbByte_of_other_line hk, State.setCollAcc_fbByte]
  · rw [renderLine_eq_putLine hy hskip]
    exact lineCollAcc_eq

end Sys2Proof.Machine
end

section
/-! Proofs of the safety family (spec/60_exceptions.md): every operation completes (O8), and which operations set and
clear the interrupt status bits (O12). -/

namespace Sys2Proof.Machine

/-! ## Completion (O8) -/

/-- Settles O8: no operation answers anything but a next state, and a command that decodes is performed. -/
theorem everyOperationCompletes : Obligations.EveryOperationCompletes := by
  refine ⟨exec_eq_next, fun s op rest i hq hd => ?_⟩
  rw [step_of_decode hq hd]
  exact exec_eq_next i _

/-! ## The order of the status bits -/

/-- Every status bit set in `x` is set in `y`. The collision nibble is no source of an interrupt. -/
structure IntStatus.Within (x y : IntStatus) : Prop where
  vsync : x.vsync = true → y.vsync = true
  line : x.line = true → y.line = true
  sprCol : x.sprCol = true → y.sprCol = true

theorem IntStatus.Within.refl (x : IntStatus) : x.Within x := ⟨id, id, id⟩

theorem IntStatus.Within.of_eq {x y : IntStatus} (h : x = y) : x.Within y := h ▸ .refl x

theorem IntStatus.Within.trans {x y z : IntStatus} (h : x.Within y) (k : y.Within z) : x.Within z :=
  ⟨k.vsync ∘ h.vsync, k.line ∘ h.line, k.sprCol ∘ h.sprCol⟩

theorem IntStatus.reset_within (x : IntStatus) : IntStatus.reset.Within x := ⟨nofun, nofun, nofun⟩

/-- A write of ISR clears bits and sets none (R159). -/
theorem acknowledge_within (v : Byte) (s : State) : (acknowledge v s).isr.Within s.isr := by
  constructor <;> exact Bool.and_elim_left

/-! ## What a tick raises -/

theorem frameBoundary_raises (s : State) : s.isr.Within (frameBoundary s).isr :=
  ⟨fun _ => rfl, id, fun h => Bool.or_eq_true_iff.mpr (.inl h)⟩

theorem lineCompare_raises (line : Int) (compare : BitVec 9) (s : State) :
    s.isr.Within (lineCompare line compare s).isr := by
  unfold lineCompare
  split
  · exact ⟨id, fun _ => rfl, id⟩
  · exact .refl _

/-- After the beam has moved a line's end raises what its frame boundary and its compare raise. -/
theorem lineEnd_raises {wraps : Prop} [Decidable wraps] (active : Bool) (line : Int) (compare : BitVec 9)
    (moved : State) :
    moved.isr.Within
      (if active then lineCompare line compare (if wraps then boundaryIf active moved else (moved, false)).1
      else (if wraps then boundaryIf active moved else (moved, false)).1).isr := by
  have boundary : moved.isr.Within (if wraps then boundaryIf active moved else (moved, false)).1.isr := by
    unfold boundaryIf
    split
    · split
      · exact frameBoundary_raises moved
      · exact .refl _
    · exact .refl _
  split
  · exact boundary.trans (lineCompare_raises _ _ _)
  · exact boundary

theorem rendered_isr {s r : State} (active : Bool) (h : RendersOnly s r) : (if active then r else s).isr = s.isr := by
  split
  · exact h.isr_eq
  · rfl

/-- A line's end clears no status bit: its render leaves them, and what follows raises. -/
theorem endVgaLine_raises (s : State) : s.isr.Within (endVgaLine s).1.isr := by
  have raises := lineEnd_raises (wraps := s.scan.vgaY + 1 = 525) (!s.ntscActive)
    (if s.scan.vgaY + 1 = 525 then 0 else s.scan.vgaY + 1 : Nat) s.irqLine
  refine IntStatus.Within.trans (.of_eq ?_) (raises _)
  rw [State.setScan_isr, rendered_isr _ (renderLine_renders _ s)]

theorem endHalfLine_raises (s : State) : s.isr.Within (endHalfLine s).1.isr := by
  have raises := lineEnd_raises (wraps := s.scan.ntscY + 1 = 525 ∨ s.scan.ntscY + 1 = 1050) s.ntscActive
    (fieldOffset s.cfg (if s.scan.ntscY + 1 = 1050 then 0 else s.scan.ntscY + 1))
    (fieldCompare s.irqLine (if s.scan.ntscY + 1 = 1050 then 0 else s.scan.ntscY + 1))
  refine IntStatus.Within.trans (.of_eq ?_) (raises _)
  rw [State.setScan_isr, rendered_isr _ (renderHalfLine_renders s)]

theorem tickVga_raises (s : State) : s.isr.Within (tickVga s).1.isr := by
  unfold tickVga
  split
  · exact endVgaLine_raises s
  · exact .refl _

theorem tickNtsc_raises (s : State) : s.isr.Within (tickNtsc s).1.isr := by
  unfold tickNtsc
  split
  · exact endHalfLine_raises s
  · exact .refl _

/-- A tick clears no status bit (R404). -/
theorem tick_raises (s : State) : s.isr.Within (tick s).1.isr :=
  (tickVga_raises s).trans (tickNtsc_raises _)

theorem afterTicks_raises (n : Nat) (s : State) : s.isr.Within (afterTicks n s).isr :=
  afterTicks_induct (motive := fun t => s.isr.Within t.isr) (fun t h => h.trans (tick_raises t)) n s (.refl s.isr)

/-! ## What the other operations leave or clear (O12) -/

@[simp] theorem reprime_isr (p : PortId) (s : State) : (reprime p s).isr = s.isr := State.setPort_isr s p _

theorem dataRead_isr (p : PortId) (s : State) : (dataRead p s).isr = s.isr := by rw [dataRead_frame]

theorem dataWrite_isr (p : PortId) (v : Byte) (s : State) : (dataWrite p v s).isr = s.isr := by rw [dataWrite_frame]

theorem loadAddrL_isr (v : Byte) (s : State) : (loadAddrL v s).isr = s.isr := by
  rw [loadAddrL_eq, State.setFx_isr, State.setPort_isr]

/-- No operation but STEP sets a status bit. The named cases are the acknowledgement, the resets, and those that move
or refill a port or store; each remaining operation replaces other device registers alone. -/
theorem exec_isr_within {i : Instr} {s t : State} (h : exec i s = .next t) (hstep : ¬ i.steps) :
    t.isr.Within s.isr := by
  cases i with
  | hostStep n => exact absurd trivial hstep
  | wrIsr v =>
    cases h
    exact acknowledge_within v s
  | hostReset =>
    cases h
    exact IntStatus.reset_within s.isr
  | wrCtrl v =>
    by_cases hreset : (Instr.wrCtrl v).resets
    · rw [exec_wrCtrl_of_resets hreset] at h
      cases h
      exact IntStatus.reset_within s.isr
    · rw [exec_wrCtrl_of_not_resets hreset] at h
      cases h
      exact .refl s.isr
  | wrAddrL v =>
    cases h
    exact .of_eq ((reprime_isr _ _).trans (loadAddrL_isr v s))
  | wrAddrM v =>
    cases h
    exact .of_eq ((reprime_isr _ _).trans (State.setPort_isr s _ _))
  | wrAddrH v =>
    cases h
    exact .of_eq ((reprime_isr _ _).trans (State.setPort_isr s _ _))
  | rdData0 =>
    cases h
    exact .of_eq (dataRead_isr .port0 s)
  | rdData1 =>
    cases h
    exact .of_eq (dataRead_isr .port1 s)
  | wrData0 v =>
    cases h
    exact .of_eq (dataWrite_isr .port0 v s)
  | wrData1 v =>
    cases h
    exact .of_eq (dataWrite_isr .port1 v s)
  | _ =>
    cases h
    exact .refl s.isr

/-- A STEP clears no status bit. -/
theorem exec_isr_raises {i : Instr} {s t : State} (h : exec i s = .next t) (hstep : i.steps) :
    s.isr.Within t.isr := by
  cases i with
  | hostStep n =>
    cases h
    exact afterTicks_raises n s
  | _ => exact hstep.elim

/-- Settles O12: a STEP only raises, every other operation only clears. -/
theorem statusBitsAreSetByStepsAndClearedByTheHost : Obligations.StatusBitsAreSetByStepsAndClearedByTheHost := by
  refine fun i s t h => ⟨fun hstep => ?_, fun hstep => ?_⟩
  · obtain ⟨hvsync, hline, hsprCol⟩ := exec_isr_within h hstep
    exact ⟨hvsync, hline, hsprCol⟩
  · obtain ⟨hvsync, hline, hsprCol⟩ := exec_isr_raises h hstep
    exact ⟨hvsync, hline, hsprCol⟩

end Sys2Proof.Machine
end

section
/-! Proof of the hazards family (spec/70_reset_and_hazards.md R441): the read cache of one port goes stale under a write
through the other (O23). -/

namespace Sys2Proof.Machine

theorem addrPlus_of_still {p : PortId} {s : State} (h : (s.port p).inc = 0) :
    addrPlus (s.port p).addr (portStep p s) = (s.port p).addr := by
  have step : portStep p s = 0 := by
    rw [portStep, h]
    rfl
  rw [step]
  exact BitVec.add_zero _

/-- With the FX engine off and step 0 a read answers the cached byte and only refills the cache. -/
theorem exec_read_of_still {p : PortId} {s : State} (hoff : s.comp[8] = 0) (hstill : (s.port p).inc = 0) :
    exec p.readOp s = .next ((reprime p s).returning (.byte (s.port p).rdData)) := by
  rw [exec_read_of_fxOff hoff, addrPlus_of_still hstill]
  rfl

theorem reprime_rdData (p : PortId) (s : State) : ((reprime p s).port p).rdData = s.readByte (s.port p).addr := by
  rw [reprime, State.setPort_port_same]

/-- A write through one port leaves the other as it is, its read cache included. -/
theorem PlainWritten.port1_eq {v : Byte} {s t : State} (h : PlainWritten .port0 v s t) : t.port1 = s.port1 := by
  rw [h.rest]
  rfl

theorem PlainWritten.comp_eq {p : PortId} {v : Byte} {s t : State} (h : PlainWritten p v s t) : t.comp = s.comp := by
  rw [h.rest, State.setPort_comp]

/-- Settles O23: the write does not touch port 1's cache, the first read answers it and refills it from the address
written to, and the second read answers the byte. -/
theorem staleLatchThroughTheOtherPort : Obligations.StaleLatchThroughTheOtherPort := by
  intro s v hoff _ hstill haddr
  obtain ⟨t, hwrite, written⟩ := exec_write_of_fxOff hoff .port0 v
  have hport : t.port .port1 = s.port1 := written.port1_eq
  have hread : exec .rdData1 t = .next ((reprime .port1 t).returning (.byte (t.port .port1).rdData)) :=
    exec_read_of_still (p := .port1) (by rw [written.comp_eq, hoff]) (by rw [hport, hstill])
  refine ⟨t, _, _, hwrite, hread, exec_readOp .port1 _, ?_, ?_⟩
  · rw [State.returning_result, hport]
  · have hstored : t.readByte s.port0.addr = v := (written.stored _).trans (if_pos rfl)
    rw [State.returning_result, State.returning_port, reprime_rdData, hport, ← haddr, hstored]

end Sys2Proof.Machine
end

section
/-! Proofs of the host interface family (spec/48_host_interfaces.md): the forwarded registers (O47), the debug reads
(O48), and the framebuffer and dump calls (O49). -/

namespace Sys2Proof.Machine

/-! ## The forwarded registers (O47) -/

/-- Settles O47: each read answers its input, each write emits its event. -/
theorem forwardedRegisters : Obligations.ForwardedRegisters := fun _ _ =>
  ⟨rfl, rfl, rfl, rfl, rfl, rfl, rfl, rfl, rfl, rfl⟩

/-! ## The debug reads (O48) -/

/-- The two operations of the pair answer one byte in `s`, and change nothing. -/
def AnswerOneByte (s : State) (pair : Instr × Instr) : Prop :=
  ∃ b, exec pair.2 s = answerByte b s ∧ exec pair.1 s = answerByte b s

/-- Every debug read whose READ has no side effect answers with its READ. -/
theorem debugPairs_answerOneByte (s : State) : ∀ pair ∈ debugPairs, AnswerOneByte s pair := by
  have listed (pair : Instr × Instr) (hpair : pair ∈ debugPairs) :
      pair ∈ debugPortPairs ∨ pair ∈ debugLayer0Pairs ∨ pair ∈ debugLayer1Pairs ∨ pair ∈ debugForwardPairs := by
    simpa only [debugPairs, List.mem_append, or_assoc] using hpair
  intro pair hpair
  obtain hport | hlayer0 | hlayer1 | hforward := listed pair hpair
  · fin_cases hport <;> exact ⟨_, rfl, rfl⟩
  · fin_cases hlayer0 <;> exact ⟨_, rfl, rfl⟩
  · fin_cases hlayer1 <;> exact ⟨_, rfl, rfl⟩
  · fin_cases hforward <;> exact ⟨_, rfl, rfl⟩

/-- The operation answers the byte a READ of the slot returns, whatever else it does. -/
def ReadsSlot (slot : BitVec 8) (s : State) (i : Instr) : Prop := ∃ t, exec i s = answerByte (slotRead slot s) t

/-- A READ of index 9 to 12 answers from the slot its bank and its index select (R114). -/
theorem decodeReadSlots_readSlot (s : State) (bank : BitVec 6) :
    ReadsSlot (undefinedSlot bank 0) s (decodeReadSlot0 bank) ∧
      ReadsSlot (undefinedSlot bank 1) s (decodeReadSlot1 bank) ∧
      ReadsSlot (undefinedSlot bank 2) s (decodeReadSlot2 bank) ∧
      ReadsSlot (undefinedSlot bank 3) s (decodeReadSlot3 bank) := by
  induction bank using bank_cases with
  | defined k hk => interval_cases k <;> exact ⟨⟨_, rfl⟩, ⟨_, rfl⟩, ⟨_, rfl⟩, ⟨_, rfl⟩⟩
  | undefined bank h =>
    obtain ⟨slot0, slot1, slot2, slot3⟩ := decodeReadSlots_of_undefined h
    rw [slot0, slot1, slot2, slot3]
    exact ⟨⟨_, rfl⟩, ⟨_, rfl⟩, ⟨_, rfl⟩, ⟨_, rfl⟩⟩

/-- A READ of the slot and a debug read of it answer one byte, the debug read with no state changed. -/
theorem ReadsSlot.debugRead {slot : BitVec 8} {s : State} {read drd : Instr} (hread : ReadsSlot slot s read)
    (hdebug : exec drd s = answerByte (slotRead slot s) s) :
    ∃ b t, exec read s = .next t ∧ t.result = .byte b ∧ exec drd s = .next { s with result := .byte b } := by
  obtain ⟨t, ht⟩ := hread
  exact ⟨slotRead slot s, t.returning _, ht, rfl, hdebug⟩

/-- Settles O48: the pairs answer one byte, the composer reads by their slot, the data windows by the read cache. -/
theorem debugReadsReturnTheReadByte : Obligations.DebugReadsReturnTheReadByte := by
  intro s
  refine ⟨debugPairs_answerOneByte s, fun pair hpair => ?_, rfl, rfl⟩
  obtain ⟨slot0, slot1, slot2, slot3⟩ := decodeReadSlots_readSlot s s.dcsel
  fin_cases hpair
  · exact slot0.debugRead rfl
  · exact slot1.debugRead rfl
  · exact slot2.debugRead rfl
  · exact slot3.debugRead rfl

/-! ## Tables of bytes, one after another -/

/-- The `k`-th byte of a table. -/
theorem getElem?_map_range (f : Nat → Byte) {n k : Nat} (hk : k < n) : ((List.range n).map f)[k]? = some (f k) := by
  rw [List.getElem?_map, List.getElem?_range hk, Option.map_some]

/-- Offset `n + k` of two parts, the first `n` bytes long, is offset `k` of the second. -/
theorem getElem?_append_at {l r : List Byte} {n : Nat} (hl : l.length = n) (k : Nat) : (l ++ r)[n + k]? = r[k]? := by
  rw [List.getElem?_append_right (by omega), hl, Nat.add_sub_cancel_left]

/-! ## The framebuffer call (R389) -/

theorem frameBytes_length (s : State) : (frameBytes s).length = 1228800 := by
  rw [frameBytes, List.length_map, List.length_range]
  rfl

/-- The bytes of a rendered line stand in the framebuffer at that line's offset. -/
theorem frameBytes_getElem? {s : State} {y k : Nat} {row : List Byte} (hrow : FrameLines.get s.fb y = some row)
    (hlength : row.length = 2560) (hy : y < 480) (hk : k < 2560) : (frameBytes s)[2560 * y + k]? = row[k]? := by
  have hoffset : 2560 * y + k < screenH * lineBytes := by
    unfold screenH lineBytes
    omega
  have hline : (2560 * y + k) / lineBytes = y := by
    unfold lineBytes
    omega
  have hcolumn : (2560 * y + k) % lineBytes = k := by
    unfold lineBytes
    omega
  have hbyte : s.fbByte (2560 * y + k) = row[k] := by
    simp only [State.fbByte, hline, hcolumn, hrow]
    exact List.getD_eq_getElem row 0 (by omega)
  rw [frameBytes, getElem?_map_range _ hoffset, hbyte, List.getElem?_eq_getElem]

/-! ## The dump call (R392) -/

theorem layerBytes_length (r : LayerRegs) : (layerBytes r).length = 7 := rfl

/-- Where the parts of a dump end: VRAM, the composer file, the palette and the layers. -/
theorem dumpParts_length (s : State) :
    ((List.range vramSize).map s.vram).length = 131072 ∧
      ((List.range vramSize).map s.vram ++ compBytes s).length = 131328 ∧
      ((List.range vramSize).map s.vram ++ compBytes s ++ paletteBytes s).length = 131840 ∧
      ((List.range vramSize).map s.vram ++ compBytes s ++ paletteBytes s ++
        (layerBytes s.layer0 ++ layerBytes s.layer1)).length = 131854 := by
  have hvram : ((List.range vramSize).map s.vram).length = 131072 := by
    rw [List.length_map, List.length_range]
    rfl
  have hcomp : (compBytes s).length = 256 := Vector.length_toList
  have hpalette : (paletteBytes s).length = 512 := by rw [paletteBytes, List.length_map, List.length_range]
  simp only [List.length_append, hvram, hcomp, hpalette, layerBytes_length, and_self]

theorem dumpBytes_length (s : State) : (dumpBytes s).length = 132878 := by
  obtain ⟨-, -, -, hparts⟩ := dumpParts_length s
  rw [dumpBytes, List.length_append, hparts, spriteBytes, List.length_map, List.length_range]

theorem dumpBytes_vram (s : State) {k : Nat} (hk : k < 131072) : (dumpBytes s)[k]? = some (s.vram k) := by
  obtain ⟨hvram, hcomp, hpalette, hlayers⟩ := dumpParts_length s
  rw [dumpBytes, List.getElem?_append_left (by omega), List.getElem?_append_left (by omega),
    List.getElem?_append_left (by omega), List.getElem?_append_left (by omega)]
  exact getElem?_map_range s.vram hk

theorem dumpBytes_comp (s : State) (k : Fin 256) :
    (dumpBytes s)[131072 + k.val]? = some ((s.comp.set 0 (videoByte s.scan.field s.comp[0]))[k]) := by
  obtain ⟨hvram, hcomp, hpalette, hlayers⟩ := dumpParts_length s
  rw [dumpBytes, List.getElem?_append_left (by omega), List.getElem?_append_left (by omega),
    List.getElem?_append_left (by omega), getElem?_append_at hvram, compBytes, Vector.getElem?_toList,
    Vector.getElem?_eq_getElem k.isLt]
  rfl

theorem dumpBytes_palette (s : State) {k : Nat} (hk : k < 512) :
    (dumpBytes s)[131328 + k]? = some (s.vram (palBase + k)) := by
  obtain ⟨hvram, hcomp, hpalette, hlayers⟩ := dumpParts_length s
  rw [dumpBytes, List.getElem?_append_left (by omega), List.getElem?_append_left (by omega),
    getElem?_append_at hcomp, paletteBytes, getElem?_map_range _ hk]

theorem dumpBytes_layers (s : State) :
    ((dumpBytes s).drop 131840).take 14 = layerBytes s.layer0 ++ layerBytes s.layer1 := by
  obtain ⟨hvram, hcomp, hpalette, hlayers⟩ := dumpParts_length s
  rw [dumpBytes, List.append_assoc _ _ (spriteBytes s), List.drop_left' hpalette]
  exact List.take_left' rfl

theorem dumpBytes_sprites (s : State) {k : Nat} (hk : k < 1024) :
    (dumpBytes s)[131854 + k]? = some (s.vram (sprBase + k)) := by
  obtain ⟨hvram, hcomp, hpalette, hlayers⟩ := dumpParts_length s
  rw [dumpBytes, getElem?_append_at hlayers, spriteBytes, getElem?_map_range _ hk]

/-- Settles O49: the framebuffer line by line, the dump part by part. -/
theorem framebufferAndDumpCalls : Obligations.FramebufferAndDumpCalls := by
  intro s
  refine ⟨⟨frameBytes s, rfl, frameBytes_length s, fun y row k hrow hlength hy hk =>
      frameBytes_getElem? hrow hlength hy hk⟩,
    dumpBytes s, rfl, dumpBytes_length s, fun k hk => dumpBytes_vram s hk, ?video, fun k hk => ?slot,
    fun k hk => dumpBytes_palette s hk, dumpBytes_layers s, fun k hk => dumpBytes_sprites s hk⟩
  case video =>
    rw [← videoByte_eq]
    exact (dumpBytes_comp s 0).trans (congrArg some (Vector.getElem_set_self _))
  case slot =>
    exact (dumpBytes_comp s k).trans (congrArg some (Vector.getElem_set_ne _ _ (by omega)))

end Sys2Proof.Machine
end

section
/-! Proofs of the scan timing family (spec/47_scan_timing.md): what a tick does not look at, with the STEP call (O50) and
the skipped frame (O55). -/

namespace Sys2Proof.Machine

/-! ## A tick of a changed state -/

/-- `f` changes nothing that a tick looks at and nothing that its signals write, and a line render commutes with it. -/
structure TickBlind (f : State → State) : Prop where
  cfg : ∀ s, (f s).cfg = s.cfg
  irqLine : ∀ s, (f s).irqLine = s.irqLine
  ntscActive : ∀ s, (f s).ntscActive = s.ntscActive
  scan : ∀ s, (f s).scan = s.scan
  isr : ∀ s, (f s).isr = s.isr
  collAcc : ∀ s, (f s).collAcc = s.collAcc
  setScan : ∀ s x, (f s).setScan x = f (s.setScan x)
  setIsr : ∀ s x, (f s).setIsr x = f (s.setIsr x)
  setCollAcc : ∀ s x, (f s).setCollAcc x = f (s.setCollAcc x)
  render : ∀ y s, renderLine y (f s) = f (renderLine y s)

section
variable {f : State → State} (blind : TickBlind f)
include blind

theorem frameBoundary_blind (s : State) : frameBoundary (f s) = f (frameBoundary s) := by
  unfold frameBoundary
  rw [blind.isr, blind.collAcc, blind.setIsr, blind.setCollAcc]

theorem lineCompare_blind (line : Int) (compare : BitVec 9) (s : State) :
    lineCompare line compare (f s) = f (lineCompare line compare s) := by
  unfold lineCompare
  rw [blind.isr, blind.setIsr, apply_ite f]

theorem renderHalfLine_blind (s : State) : renderHalfLine (f s) = f (renderHalfLine s) := by
  unfold renderHalfLine
  dsimp only
  rw [blind.cfg, blind.scan, blind.render, apply_ite f]

/-- The frame boundary where a raster wraps. -/
theorem wrap_blind (wraps : Prop) [Decidable wraps] (active : Bool) (s : State) :
    (if wraps then boundaryIf active (f s) else (f s, false)) =
      (if wraps then boundaryIf active s else (s, false)).map f id := by
  unfold boundaryIf
  rw [frameBoundary_blind blind]
  split
  · split <;> rfl
  · rfl

theorem endVgaLine_blind (s : State) : endVgaLine (f s) = (endVgaLine s).map f id := by
  have rendered : (if (!s.ntscActive) = true then renderLine s.scan.vgaY (f s) else f s) =
      f (if (!s.ntscActive) = true then renderLine s.scan.vgaY s else s) := by
    rw [blind.render, apply_ite f]
  unfold endVgaLine
  simp only [blind.ntscActive, blind.scan, blind.irqLine, rendered, blind.setScan, wrap_blind blind, Prod.map_fst,
    Prod.map_snd, Prod.map_apply, id_eq, lineCompare_blind blind, ← apply_ite f]

theorem endHalfLine_blind (s : State) : endHalfLine (f s) = (endHalfLine s).map f id := by
  have rendered : (if s.ntscActive = true then renderHalfLine (f s) else f s) =
      f (if s.ntscActive = true then renderHalfLine s else s) := by
    rw [renderHalfLine_blind blind, apply_ite f]
  unfold endHalfLine
  simp only [blind.ntscActive, blind.scan, blind.cfg, blind.irqLine, rendered, blind.setScan, wrap_blind blind,
    Prod.map_fst, Prod.map_snd, Prod.map_apply, id_eq, lineCompare_blind blind, ← apply_ite f]

theorem tickVga_blind (s : State) : tickVga (f s) = (tickVga s).map f id := by
  unfold tickVga
  rw [blind.scan, endVgaLine_blind blind, blind.setScan]
  split <;> rfl

theorem tickNtsc_blind (s : State) : tickNtsc (f s) = (tickNtsc s).map f id := by
  unfold tickNtsc
  rw [blind.scan, blind.cfg, endHalfLine_blind blind, blind.setScan]
  split <;> rfl

/-- What a tick does not look at it carries along. -/
theorem tick_blind (s : State) : tick (f s) = (tick s).map f id := by
  unfold tick
  dsimp only
  rw [tickVga_blind blind, Prod.map_fst, tickNtsc_blind blind]
  rfl

theorem afterTicks_blind (n : Nat) : ∀ s : State, afterTicks n (f s) = f (afterTicks n s) := by
  induction n with
  | zero => exact fun _ => rfl
  | succ n ih =>
    intro s
    rw [afterTicks_succ, afterTicks_succ, tick_blind blind, Prod.map_fst, ih]

theorem tickEndsFrame_blind (s : State) : tickEndsFrame (f s) = tickEndsFrame s := by
  unfold tickEndsFrame
  rw [tick_blind blind]
  rfl

theorem countTicks_blind (n : Nat) :
    ∀ s : State, countTicks tickEndsFrame n (f s) = countTicks tickEndsFrame n s := by
  induction n with
  | zero => exact fun _ => rfl
  | succ n ih =>
    intro s
    rw [countTicks, countTicks, tickEndsFrame_blind blind, tick_blind blind, Prod.map_fst, ih]

end

/-! ## The collision bookkeeping of a render (R330, R391) -/

/-- The skipped form of a render does the collision bookkeeping alone. -/
theorem renderSkipped_eq (y : Nat) (s : State) : renderSkipped y s = s.setCollAcc (lineCollAcc y s) := by
  unfold renderSkipped lineCollAcc
  split
  · rfl
  · exact (State.setCollAcc_self s).symm

theorem renderLine_of_skip {y : Nat} {s : State} (hy : y < 480) (hskip : s.inputs.skip = true) :
    renderLine y s = s.setCollAcc (lineCollAcc y s) := by
  have hvisible : ¬ screenH ≤ y := Nat.not_le.mpr hy
  rw [renderLine, if_neg hvisible, if_pos hskip, renderSkipped_eq]

/-- What the last operation returned is no part of what a tick looks at. -/
theorem returning_tickBlind (r : HostResult) : TickBlind (State.returning r) where
  cfg _ := rfl
  irqLine _ := rfl
  ntscActive _ := rfl
  scan _ := rfl
  isr _ := rfl
  collAcc _ := rfl
  setScan _ _ := rfl
  setIsr _ _ := rfl
  setCollAcc _ _ := rfl
  render y s := by
    by_cases hy : y < 480
    · cases hskip : s.inputs.skip with
      | true =>
        rw [renderLine_of_skip hy hskip, renderLine_of_skip (s := s.returning r) hy hskip]
        rfl
      | false =>
        rw [renderLine_eq_putLine hy hskip, renderLine_eq_putLine (s := s.returning r) hy hskip]
        rfl
    · rw [renderLine_of_le (Nat.le_of_not_lt hy), renderLine_of_le (Nat.le_of_not_lt hy)]

/-! ## The STEP call (O50) -/

/-- The ticks report a frame's end when one before them did or one of them does. -/
theorem ticks_flag (n : Nat) : ∀ (s : State) (newFrame : Bool),
    (ticks n s newFrame).2 = (newFrame || decide (0 < countTicks tickEndsFrame n s)) := by
  induction n with
  | zero => exact fun _ newFrame => (Bool.or_false newFrame).symm
  | succ n ih =>
    intro s newFrame
    rw [ticks, ih, countTicks, Bool.or_assoc]
    congr 1
    cases hends : (tick s).2 <;> simp [tickEndsFrame, hends]

theorem exec_hostStep (n : Nat) (s : State) :
    exec (.hostStep n) s =
      .next ((afterTicks n s).returning (.flag (decide (0 < countTicks tickEndsFrame n s)))) := by
  have flag : (ticks n s false).2 = decide (0 < countTicks tickEndsFrame n s) :=
    (ticks_flag n s false).trans (Bool.false_or _)
  rw [← flag]
  rfl

theorem afterTicks_ticks (n : Nat) (s : State) : TicksOnly s (afterTicks n s) := ticks_ticks n s false

theorem afterTicks_add (a b : Nat) : ∀ s : State, afterTicks (a + b) s = afterTicks b (afterTicks a s) := by
  induction a with
  | zero =>
    intro s
    rw [Nat.zero_add]
    rfl
  | succ a ih =>
    intro s
    rw [Nat.succ_add, afterTicks_succ, afterTicks_succ, ih]

/-- Settles O50: the ticks and their report, no tick, a sum of ticks, and what ticks write. -/
theorem stepPerformsTicks : Obligations.StepPerformsTicks := by
  refine ⟨exec_hostStep, fun s => rfl, fun a b s => ?sum, fun n s t h => ?writes⟩
  case sum =>
    refine ⟨_, _, _, exec_hostStep a s, exec_hostStep b _, exec_hostStep (a + b) s, ?_⟩
    rw [afterTicks_blind (returning_tickBlind _), afterTicks_add]
    rfl
  case writes =>
    rw [exec_hostStep] at h
    cases h
    exact congrArg (State.returning _) (afterTicks_ticks n s).rest

/-! ## The skipped frame (O55) -/

/-- The state with SKIP_IN 1 and the framebuffer `fb`. -/
def State.skipping (fb : List (Nat × List Byte)) (s : State) : State :=
  { s with inputs := { s.inputs with skip := true }, fb := fb }

theorem renderLine_collAcc {y : Nat} (hy : y < 480) (s : State) : (renderLine y s).collAcc = lineCollAcc y s := by
  cases hskip : s.inputs.skip with
  | true =>
    rw [renderLine_of_skip hy hskip]
    rfl
  | false =>
    rw [renderLine_eq_putLine hy hskip]
    rfl

/-- With the framebuffer set aside a render does the same with SKIP_IN 0 and 1 (R391). -/
theorem skipping_tickBlind (fb : List (Nat × List Byte)) : TickBlind (State.skipping fb) where
  cfg _ := rfl
  irqLine _ := rfl
  ntscActive _ := rfl
  scan _ := rfl
  isr _ := rfl
  collAcc _ := rfl
  setScan _ _ := rfl
  setIsr _ _ := rfl
  setCollAcc _ _ := rfl
  render y s := by
    by_cases hy : y < 480
    · rw [renderLine_of_skip (s := s.skipping fb) hy rfl, (renderLine_renders y s).rest, renderLine_collAcc hy]
      rfl
    · rw [renderLine_of_le (Nat.le_of_not_lt hy), renderLine_of_le (Nat.le_of_not_lt hy)]

/-- Settles O55: the skipped ticks are the full ones with the framebuffer set aside. -/
theorem skipFrame : Obligations.SkipFrame := by
  intro s n
  refine ⟨rfl, ?_⟩
  have skipped := exec_hostStep n (State.skipping s.fb { s with inputs := { s.inputs with skip := false } })
  rw [afterTicks_blind (skipping_tickBlind s.fb), countTicks_blind (skipping_tickBlind s.fb)] at skipped
  exact ⟨_, _, exec_hostStep n _, skipped, rfl, rfl⟩

end Sys2Proof.Machine
end

section
/-! Proof of the one-frame law (spec/47_scan_timing.md R354, R361; O52): each event of the VGA raster has one position of
the beam, and a frame of ticks passes each position once. -/

namespace Sys2Proof.Machine

/-! ## The motion of the VGA beam -/

/-- The VGA raster is active, its beam on the raster, and the compare value is `irqLine`. -/
structure VgaRuns (irqLine : BitVec 9) (s : State) : Prop where
  active : s.ntscActive = false
  vgaX : s.scan.vgaX < 800
  vgaY : s.scan.vgaY < 525
  compare : s.irqLine = irqLine

/-- The VGA raster keeps its beam on the raster, wherever the NTSC beam stands. -/
theorem nextVga_onRaster {x : Scan} (hx : x.vgaX < 800) (hy : x.vgaY < 525) :
    x.nextVga.vgaX < 800 ∧ x.nextVga.vgaY < 525 := by
  unfold Scan.nextVga
  split
  · refine ⟨Nat.succ_pos 799, ?_⟩
    dsimp only
    split <;> omega
  · exact ⟨by dsimp only; omega, hy⟩

/-- The VGA raster moves its beam by one pixel, wherever the NTSC beam stands. -/
theorem nextVga_position {x : Scan} (hx : x.vgaX < 800) (hy : x.vgaY < 525) :
    x.nextVga.vgaPosition = (x.vgaPosition + 1) % 420000 := by
  refine Eq.trans ?_ (beam_next hx hy)
  unfold Scan.nextVga Scan.vgaPosition
  split <;> rfl

@[simp] theorem nextNtsc_vgaX (halfW : Nat) (x : Scan) : (x.nextNtsc halfW).vgaX = x.vgaX := by
  unfold Scan.nextNtsc
  split <;> rfl

@[simp] theorem nextNtsc_vgaY (halfW : Nat) (x : Scan) : (x.nextNtsc halfW).vgaY = x.vgaY := by
  unfold Scan.nextNtsc
  split <;> rfl

/-! ## Positions of events -/

/-- The position of the beam before the tick that compares line `line`: the last pixel of the line before it. -/
def comparePosition (line : Nat) : Nat := (line * 800 + 419999) % 420000

theorem comparePosition_lt (line : Nat) : comparePosition line < 420000 := Nat.mod_lt _ (by decide)

/-- How many ticks bring the beam from `position` to `target`, going around the frame where it is behind. -/
def ticksUntil (target position : Nat) : Nat := (target + 420000 - position) % 420000

theorem ticksUntil_lt (target position : Nat) : ticksUntil target position < 420000 := Nat.mod_lt _ (by decide)

theorem ticksUntil_self (target : Nat) : ticksUntil target target = 0 := by
  unfold ticksUntil
  omega

/-- Just past its target the beam has the rest of a frame to go. -/
theorem ticksUntil_past {target : Nat} (htarget : target < 420000) :
    ticksUntil target ((target + 1) % 420000) = 419999 := by
  unfold ticksUntil
  omega

/-- Anywhere else a tick brings the beam one pixel closer. -/
theorem ticksUntil_closer {target position : Nat} (htarget : target < 420000) (hposition : position < 420000)
    (hne : position ≠ target) : ticksUntil target position = ticksUntil target ((position + 1) % 420000) + 1 := by
  unfold ticksUntil
  omega

/-! ## The events of one tick -/

section
variable {irqLine : BitVec 9} {s : State} (runs : VgaRuns irqLine s)
include runs

theorem VgaRuns.next : VgaRuns irqLine (tick s).1 := by
  obtain ⟨hvgaX, hvgaY⟩ := nextVga_onRaster runs.vgaX runs.vgaY
  have only := tick_ticks s
  refine ⟨only.ntscActive_eq.trans runs.active, ?_, ?_, ?_⟩
  · rwa [tick_scan, nextNtsc_vgaX]
  · rwa [tick_scan, nextNtsc_vgaY]
  · rw [only.rest]
    exact runs.compare

theorem VgaRuns.tick_position : (tick s).1.scan.vgaPosition = (s.scan.vgaPosition + 1) % 420000 := by
  rw [tick_scan, nextNtsc_vgaPosition, nextVga_position runs.vgaX runs.vgaY]

/-- The tick from the last pixel of the raster ends the frame, and no other. -/
theorem VgaRuns.endsFrame : tickEndsFrame s = decide (s.scan.vgaPosition = 419999) := by
  obtain ⟨wrap, line, within⟩ := vgaLineEnds s runs.active
  have hvgaX := runs.vgaX
  have hvgaY := runs.vgaY
  unfold tickEndsFrame Scan.vgaPosition
  by_cases hx : s.scan.vgaX = 799
  · by_cases hy : s.scan.vgaY = 524
    · rw [(wrap hx hy).1, decide_eq_true (by omega)]
    · rw [(line hx (by omega)).1, decide_eq_false (by omega)]
  · rw [(within hx).1, decide_eq_false (by omega)]

/-- A tick sets the line bit where the beam comes to a visible line with the compare value's number. -/
theorem VgaRuns.isr_line :
    (tick s).1.isr.line =
      (s.isr.line || decide (irqLine.toNat ≤ 479 ∧ s.scan.vgaPosition = comparePosition irqLine.toNat)) := by
  obtain ⟨wrap, line, within⟩ := vgaLineEnds s runs.active
  obtain ⟨-, hvgaX, hvgaY, rfl⟩ := runs
  unfold Scan.vgaPosition comparePosition
  by_cases hx : s.scan.vgaX = 799
  · by_cases hy : s.scan.vgaY = 524
    · obtain ⟨-, -, -, hisr⟩ := wrap hx hy
      rw [hisr]
      exact congrArg (s.isr.line || ·) (decide_eq_decide.mpr (by omega))
    · obtain ⟨-, -, -, hisr⟩ := line hx (by omega)
      rw [hisr]
      exact congrArg (s.isr.line || ·) (decide_eq_decide.mpr (by omega))
  · obtain ⟨-, -, -, hisr⟩ := within hx
    rw [hisr, decide_eq_false (by omega), Bool.or_false]

theorem VgaRuns.raisesLine :
    tickRaisesLine s =
      decide (irqLine.toNat ≤ 479 ∧ s.scan.vgaPosition = comparePosition irqLine.toNat) := by
  have cleared : VgaRuns irqLine (s.setIsr { s.isr with line := false }) :=
    ⟨runs.active, runs.vgaX, runs.vgaY, runs.compare⟩
  exact cleared.isr_line.trans (Bool.false_or _)

/-! ## The events of one frame -/

/-- Within one frame of ticks an event at position `target` happens once, if the ticks reach it. -/
theorem VgaRuns.countTicks_at {property : State → Bool} {target : Nat} (htarget : target < 420000)
    (hproperty : ∀ t, VgaRuns irqLine t → property t = decide (t.scan.vgaPosition = target)) {n : Nat}
    (hn : n ≤ 420000) :
    countTicks property n s = if ticksUntil target s.scan.vgaPosition < n then 1 else 0 := by
  induction n generalizing s with
  | zero => exact (if_neg (Nat.not_lt_zero _)).symm
  | succ n ih =>
    have hposition : s.scan.vgaPosition < 420000 := beam_lt runs.vgaX runs.vgaY
    rw [countTicks, ih runs.next (by omega), runs.tick_position, hproperty s runs]
    by_cases hat : s.scan.vgaPosition = target
    · rw [hat, ticksUntil_past htarget, ticksUntil_self, if_pos (decide_eq_true rfl), if_neg (by omega),
        if_pos (Nat.succ_pos n)]
    · rw [ticksUntil_closer htarget hposition hat, decide_eq_false hat, if_neg Bool.false_ne_true, Nat.zero_add]
      exact if_congr Nat.succ_lt_succ_iff.symm rfl rfl

/-- An event that never happens is counted at no tick. -/
theorem VgaRuns.countTicks_never {property : State → Bool} (hproperty : ∀ t, VgaRuns irqLine t → property t = false)
    (n : Nat) : countTicks property n s = 0 := by
  induction n generalizing s with
  | zero => rfl
  | succ n ih =>
    rw [countTicks, ih runs.next, hproperty s runs]
    rfl

theorem VgaRuns.countTicks_endsFrame : countTicks tickEndsFrame 420000 s = 1 := by
  rw [runs.countTicks_at (by decide) (fun _ h => h.endsFrame) le_rfl, if_pos (ticksUntil_lt _ _)]

theorem VgaRuns.countTicks_raisesLine :
    countTicks tickRaisesLine 420000 s = if irqLine.toNat ≤ 479 then 1 else 0 := by
  by_cases hvisible : irqLine.toNat ≤ 479
  · have at_position (t : State) (h : VgaRuns irqLine t) :
        tickRaisesLine t = decide (t.scan.vgaPosition = comparePosition irqLine.toNat) := by
      rw [h.raisesLine]
      exact decide_eq_decide.mpr (and_iff_right hvisible)
    rw [runs.countTicks_at (comparePosition_lt _) at_position le_rfl, if_pos (ticksUntil_lt _ _), if_pos hvisible]
  · have never (t : State) (h : VgaRuns irqLine t) : tickRaisesLine t = false := by
      rw [h.raisesLine, decide_eq_false fun hit => hvisible hit.1]
    rw [runs.countTicks_never never, if_neg hvisible]

/-! ## The bits that the counted ticks set -/

/-- The tick that ends the frame sets the vertical sync bit (R360). -/
theorem VgaRuns.isr_vsync_of_endsFrame (h : tickEndsFrame s = true) : (tick s).1.isr.vsync = true := by
  obtain ⟨wrap, line, within⟩ := vgaLineEnds s runs.active
  have hvgaX := runs.vgaX
  have hvgaY := runs.vgaY
  have hposition : s.scan.vgaPosition = 419999 := of_decide_eq_true (runs.endsFrame.symm.trans h)
  unfold Scan.vgaPosition at hposition
  obtain ⟨-, -, -, hisr⟩ := wrap (by omega) (by omega)
  rw [hisr]

theorem VgaRuns.isr_line_of_raisesLine (h : tickRaisesLine s = true) : (tick s).1.isr.line = true := by
  rw [runs.isr_line, ← runs.raisesLine, h, Bool.or_true]

/-- What some tick establishes and every tick keeps stands after the ticks. -/
theorem VgaRuns.afterTicks_of_countTicks {property : State → Bool} {motive : State → Prop}
    (hset : ∀ t, VgaRuns irqLine t → property t = true → motive (tick t).1)
    (hkeep : ∀ t, motive t → motive (tick t).1) {n : Nat} (hcount : 0 < countTicks property n s) :
    motive (afterTicks n s) := by
  induction n generalizing s with
  | zero => exact absurd hcount (lt_irrefl 0)
  | succ n ih =>
    rw [afterTicks_succ]
    cases hp : property s with
    | true => exact afterTicks_induct hkeep n _ (hset s runs hp)
    | false =>
      rw [countTicks, hp, if_neg Bool.false_ne_true, Nat.zero_add] at hcount
      exact ih runs.next hcount

end

/-- Settles O52: the two counts by the positions of their events, and the bits set by the ticks counted. -/
theorem oneFrameLaw : Obligations.OneFrameLaw := by
  intro s hx hy hactive
  have runs : VgaRuns s.irqLine s := ⟨hactive, hx, hy, rfl⟩
  have hframes := runs.countTicks_endsFrame
  refine ⟨hframes, runs.countTicks_raisesLine, _, exec_hostStep 420000 s, ?_, ?_, fun hvisible => ?_⟩
  · rw [State.returning_result, hframes]
    rfl
  · rw [State.returning_isr]
    exact runs.afterTicks_of_countTicks (motive := fun t => t.isr.vsync = true)
      (fun _ h => h.isr_vsync_of_endsFrame) (fun t => (tick_raises t).vsync) (by rw [hframes]; exact Nat.one_pos)
  · rw [State.returning_isr]
    exact runs.afterTicks_of_countTicks (motive := fun t => t.isr.line = true)
      (fun _ h => h.isr_line_of_raisesLine) (fun t => (tick_raises t).line)
      (by rw [runs.countTicks_raisesLine, if_pos hvisible]; exact Nat.one_pos)

end Sys2Proof.Machine
end
